-- ==== Sys2Proof/Word.lean ====
section
/-! DEFINITION. The widths of TLV493D-RFM: the byte of a register or frame (`BYTE_W`), the low nibble of a
channel and the 12-bit pattern of a sample (`SAMPLE_W`), `00_scope.md` rule R5. -/

namespace Sys2Proof

/-- A register, a byte of a frame: 8 bits, unsigned (R5 `BYTE_W`). -/
abbrev Byte := BitVec 8

/-- The low nibble of a channel, bits 3:0 of its 12-bit value (R60). -/
abbrev Nibble := BitVec 4

/-- The 12-bit pattern of a sample register (R5 `SAMPLE_W`, R12). -/
abbrev Word12 := BitVec 12

end Sys2Proof
end

