-- ==== Sys2Proof/Machine/Flags.lean ====
section
/-! DEFINITION. The block's only flag computation: the validity test of `41_sample_decoder.md` rule R88. There are
no condition codes (R13). -/

namespace Sys2Proof.Machine

/-- STATUS of a frame's byte 3: its bits 1:0 (R17, `STATUS_MASK` of R59). -/
def statusBits (b3 : Byte) : Byte := b3 &&& 0x03#8

/-- The validity of a frame from its byte 3 (R88): both STATUS bits are zero. -/
def frameValid (b3 : Byte) : Bool := statusBits b3 == 0x00#8

end Sys2Proof.Machine
end

