-- ==== Sys2Proof/Machine/Operands.lean ====
section
/-! DEFINITION. The datapath: the operands of every field operation and what is computed from them, as functions of
values. Nibbles, `asm12` and `s12` (`30_encoding.md` R59, R60; `41_sample_decoder.md` R80, R81), the ConfigFrame
bytes and `merge` (`40_configurator.md` R72 to R76), the four channels and `decode` (R83 to R89), the inverse
packing (R91) and the field multiplexer (R58). -/

namespace Sys2Proof.Machine

/-- Bits 7:4 of a companion byte, right-shifted 4 and re-masked to 4 bits (R52, R83). -/
def highNibble (b : Byte) : Nibble := ((b >>> 4) &&& 0x0F#8).setWidth 4

/-- Bits 3:0 of a companion byte (R60). -/
def lowNibble (b : Byte) : Nibble := (b &&& 0x0F#8).setWidth 4

/-- `asm12(H, N)` (R80): the high byte in bits 11:4 and the nibble in bits 3:0. -/
def asm12 (H : Byte) (N : Nibble) : Word12 := (H.setWidth 12 <<< 4) ||| N.setWidth 12

/-- `s12(r)` (R81): the signed reading of a 12-bit pattern, one threshold for all four channels. -/
def s12 (r : Word12) : Int :=
  if r.toNat < 2048 then (r.toNat : Int) else (r.toNat : Int) - 4096

/-- A sample value carried in `n` bits: sign-extended (R12, R55, D14). -/
def sextSample (n : Nat) (r : Word12) : BitVec n := r.signExtend n

/-- ConfigFrame byte 0: the constant zero (R72). -/
def cfgByte0 : Byte := 0x00#8

/-- ConfigFrame byte 1 from RawFrame byte 7 and preset byte 1 (R73). -/
def cfgByte1 (raw7 p1 : Byte) : Byte := (raw7 &&& 0x78#8) ||| p1

/-- ConfigFrame byte 2 from RawFrame byte 8 and preset byte 2 (R74). -/
def cfgByte2 (raw8 p2 : Byte) : Byte := raw8 ||| p2

/-- ConfigFrame byte 3 from RawFrame byte 9 and preset byte 3 (R75). -/
def cfgByte3 (raw9 p3 : Byte) : Byte := (raw9 &&& 0x0F#8) ||| p3

/-- `merge(raw, P)` (R76). -/
def mergeFrame (raw : Vector Byte 10) (P : Vector Byte 4) : Vector Byte 4 :=
  #v[cfgByte0, cfgByte1 raw[7] P[1], cfgByte2 raw[8] P[2], cfgByte3 raw[9] P[3]]

/-- The X pattern from frame bytes 0 and 4 (R83). -/
def channelX (f0 f4 : Byte) : Word12 := asm12 f0 (highNibble f4)

/-- The Y pattern from frame bytes 1 and 4 (R84). -/
def channelY (f1 f4 : Byte) : Word12 := asm12 f1 (lowNibble f4)

/-- The Z pattern from frame bytes 2 and 5 (R85). -/
def channelZ (f2 f5 : Byte) : Word12 := asm12 f2 (lowNibble f5)

/-- The T pattern from frame bytes 3 and 6: the high byte keeps its bits 7:4 only (R86). -/
def channelT (f3 f6 : Byte) : Word12 := asm12 (f3 &&& 0xF0#8) (lowNibble f6)

/-- The Sample as its registers hold it (R55). -/
structure Sample where
  x     : Word12
  y     : Word12
  z     : Word12
  t     : Word12
  valid : Bool
  deriving DecidableEq, Repr

/-- `decode(f)` of a seven-byte frame (R89), as the patterns of the sample registers. -/
def decodeFrame (f : Vector Byte 7) : Sample :=
  { x := channelX f[0] f[4], y := channelY f[1] f[4], z := channelZ f[2] f[5], t := channelT f[3] f[6],
    valid := frameValid f[3] }

/-- The first seven bytes of the receive buffer: the sample frame (R10, R52). -/
def sampleFrame (r : Vector Byte 10) : Vector Byte 7 :=
  #v[r[0], r[1], r[2], r[3], r[4], r[5], r[6]]

/-- The 12-bit pattern of an integer: its remainder modulo 4096 (R82 (d), R91). -/
def pattern12 (v : Int) : Word12 := BitVec.ofInt 12 v

/-- Bits 11:4 of a pattern. -/
def highByte (r : Word12) : Byte := (r >>> 4).setWidth 8

/-- Bits 3:0 of a pattern, zero-extended to a byte. -/
def nibbleByte (r : Word12) : Byte := (r &&& 0x00F#12).setWidth 8

/-- `pack(x, y, z, t)` (R91): for x, y, z in [-2048, 2047] and t in the set of R87, the frame with zero ignored bits
that decodes to the four integers. A test fixture, no operation of the block. DESIGN CHOICE, log entry 27: the spec
defines no `pack` of other integers; this function is total, takes each modulo 4096 and drops bits 7:4 of t, and the
frame it gives for them does not decode to them. -/
def packFrame (x y z t : Int) : Vector Byte 7 :=
  #v[highByte (pattern12 x), highByte (pattern12 y), highByte (pattern12 z), highByte (pattern12 t) &&& 0xF0#8,
    (nibbleByte (pattern12 x) <<< 4) ||| nibbleByte (pattern12 y), nibbleByte (pattern12 z),
    nibbleByte (pattern12 t)]

/-- The field multiplexer (R58): `fout` of a select code, zero-extended to 12 bits (D13). The reserved codes 9 to 15
have no defined value. -/
def fmux (sel : BitVec 4) (r : Vector Byte 10) (P : Vector Byte 4) : Option Word12 :=
  match sel.toNat with
  | 0 => some (cfgByte0.setWidth 12)
  | 1 => some ((cfgByte1 r[7] P[1]).setWidth 12)
  | 2 => some ((cfgByte2 r[8] P[2]).setWidth 12)
  | 3 => some ((cfgByte3 r[9] P[3]).setWidth 12)
  | 4 => some (channelX r[0] r[4])
  | 5 => some (channelY r[1] r[4])
  | 6 => some (channelZ r[2] r[5])
  | 7 => some (channelT r[3] r[6])
  | 8 => some (if frameValid r[3] then 1 else 0)
  | _ => none

end Sys2Proof.Machine
end

