-- ==== Sys2Proof/Config.lean ====
section
/-! DEFINITION. What an implementation fixes and the spec leaves open: the parameters of `00_scope.md` rule R5
and the free values of `93_implementation_defined.md` (U1 to U5, U7). A free value is an opaque constant: no
proof can see what it is, so what is proved holds whatever it is. -/

namespace Sys2Proof

/-- The four names of a PowerModePreset (R54). A label with no effect on any rule (D4). -/
inductive PowerMode where
  | ultraLowPower
  | lowPower
  | fastMode
  | powerDown
  deriving DecidableEq, Repr

/-- The parameters fixed before reset is released and constant for the whole run (R5, R16). `preset` is
PRESET[0..3]; `presetName` is PRESET_NAME; `devAddr` is DEV_ADDR and `delay` is DELAY, whose widths and units no
source gives (log entry 21). -/
structure Params where
  preset     : Vector Byte 4
  presetName : PowerMode
  devAddr    : Nat
  delay      : Nat
  deriving DecidableEq, Repr

/-- How the transport treats a bus call (R32, R105): it returns after `count` bytes were moved, in full when
`count` is at least the length of the call and short otherwise, or it never returns. -/
inductive BusReply where
  | answers (count : Nat)
  | stalls
  deriving DecidableEq, Repr, Inhabited

namespace Config

/-- Open MODE bits of the preset (R54, D3); only the positions a well-formed preset may set are taken. -/
opaque presetMode : Fin 4 → Byte

/-- PRESET of this machine: any value that is well formed (R71), since bits outside the MODE positions of R54 are
zero and those inside are open. Log entry 2. -/
def preset : Vector Byte 4 :=
  #v[0x00#8, presetMode 1 &&& 0x87#8, 0x00#8, presetMode 3 &&& 0xF0#8]

/-- Which of the three admitted preset names is active: not given (D4). -/
opaque presetPick : Fin 3

/-- PRESET_NAME of this machine: open, not FastMode (R5). Log entry 26. -/
def presetName : PowerMode :=
  if presetPick = 0 then .ultraLowPower else if presetPick = 1 then .lowPower else .powerDown

/-- DEV_ADDR, the device's bus address: open (D5). -/
opaque devAddr : Nat

/-- DELAY, the inter-cycle delay: open, and no rule computes with it (D21). -/
opaque delay : Nat

/-- The parameters of this machine. -/
def params : Params :=
  { preset := preset, presetName := presetName, devAddr := devAddr, delay := delay }

/-- DR[0..9] at the device's power-on: transient bytes in 0 to 6, factory calibration in 7 to 9, none given
(R20, U2, U4). Log entry 4. -/
opaque readableAtPowerOn : Fin 10 → Byte

/-- DW[0..3] at the device's power-on: not given (R20). Log entry 4. -/
opaque writableAtPowerOn : Fin 4 → Byte

/-- `any8` of R8 and R34: the byte at position `i` that the transport did not deliver in free draw `n`.
Log entry 8. -/
opaque any8 : Nat → Fin 10 → Byte

/-- What DW[i] holds after a configuration write that was not taken in full, in free draw `n` (R35, R123, U5).
Log entry 9. -/
opaque unknownWrite : Nat → Fin 4 → Byte

/-- What the device puts into DR[i] in free draw `n` while its configuration is `dw` (R100, U3). Later reads depend on
the configuration, the source does not say how (R19 (a), R44, R145): so the configuration is an argument and the
dependence on it is open. Log entry 5. -/
opaque liveByte : (dw : Vector Byte 4) → (n : Nat) → (i : Fin 10) → Byte

/-- How the transport treats the bus call after free draw `n` (R32, R105, U1, U7). Log entry 7. -/
opaque transport : Nat → BusReply

/-- How many bytes the transport moves in a bus call made before the first step's draw. Log entry 7. -/
opaque firstCount : Nat

end Config

end Sys2Proof
end

