-- ==== Sys2Proof/Machine/State.lean ====
section
/-! DEFINITION. The state of TLV493D-RFM as plain data: the block's registers (`10_state.md` rules R10 to R15), the
parameters the step takes (R16), the device's registers (R17, R18), the collaborators (R19, R32, R107) and the
reset input (R140), with its value after reset (R20). -/

namespace Sys2Proof.Machine

/-- What EMIT hands to the output channel (R106): a Sample read as four signed integers, or the abstract error
marker (D23), which is no Sample. -/
inductive Output where
  | sample (x y z t : Int)
  | errorMarker
  deriving DecidableEq, Repr

/-- A row the output channel renders (R107). -/
inductive Row where
  | header
  | sample (x y z t : Int)
  | errorMarker
  deriving DecidableEq, Repr

/-- One event of a run (R109): a bus read of `count` registers from the device at `addr` with the bytes it returned, a
missing one being the free value the block got (R34); a bus write of four bytes to it; or an Output. -/
inductive Event where
  | memRead (addr count : Nat) (returned : List Byte)
  | memWrite (addr : Nat) (bytes : Vector Byte 4)
  | output (o : Output)
  deriving DecidableEq, Repr

/-- The output channel's side of EMIT (R107, R19 (c)): the count of emitted samples and the rows rendered so far,
newest first. -/
structure Channel where
  count : Nat
  rows  : List Row
  deriving DecidableEq, Repr

/-- The state of the block and of what it sees. -/
structure State where
  /-- receive buffer (R10) -/
  rbuf    : Vector Byte 10
  /-- transmit buffer (R11) -/
  wbuf    : Vector Byte 4
  /-- sample register X (R12) -/
  x       : Word12
  /-- sample register Y (R12) -/
  y       : Word12
  /-- sample register Z (R12) -/
  z       : Word12
  /-- sample register T (R12) -/
  t       : Word12
  /-- validity flag (R13) -/
  valid   : Bool
  /-- sequencer state, the program counter (R15) -/
  phase   : BitVec 3
  /-- select input of the field multiplexer, when a field operation is issued alone (R57; log entry 12) -/
  sel     : Option (BitVec 4)
  /-- PRESET, PRESET_NAME, DEV_ADDR, DELAY (R16; log entry 1) -/
  par     : Params
  /-- device readable registers (R17) -/
  dr      : Vector Byte 10
  /-- device writable registers (R18) -/
  dw      : Vector Byte 4
  /-- how the transport treats the next bus call (R32, R105; log entry 7) -/
  bus     : BusReply
  /-- the reset input is applied (R140; log entry 15) -/
  resetIn : Bool
  /-- the output channel (R107, R19 (c)) -/
  chan    : Channel
  /-- the events of the run, newest first (R109; log entry 17) -/
  events  : List Event
  /-- how many free draws were made: the model's own counter (log entry 11) -/
  draws   : Nat
  deriving DecidableEq, Repr

/-- Why the machine has no further step. -/
inductive Fault where
  /-- Raised by RDFULL, WRCFG and RDSMP when the transport never returns from the call: the block is stuck in that
  phase (R105, R124, U7). Safe: the model stops where the hardware makes no step. -/
  | busStalled
  deriving DecidableEq, Repr

/-- Why a state has no meaning for its next operation. -/
inductive Refusal where
  /-- An operation without a meaning, named by its mnemonic. No arm of `exec` answers it. Safe. -/
  | notModelled (mnemonic : String)
  /-- Raised by the fetch when `phase` holds the reserved code 7 (R61, D12, U9). Safe: no step. -/
  | reservedPhase (code : BitVec 3)
  /-- Raised by the fetch when a reserved select code 9 to 15 is issued (R61, D12, U9). Safe: no step. -/
  | reservedSel (code : BitVec 4)
  deriving DecidableEq, Repr

/-- The machine right after reset (R20): `phase` is 0 and `valid` is 0; the parameters are those of the
configuration; the device holds what it holds at power-on. The buffers and sample registers, to which the spec
gives no reset value, hold zero: DESIGN CHOICE, log entry 3. -/
def State.reset : State where
  rbuf := #v[0, 0, 0, 0, 0, 0, 0, 0, 0, 0]
  wbuf := #v[0, 0, 0, 0]
  x := 0
  y := 0
  z := 0
  t := 0
  valid := false
  phase := 0
  sel := none
  par := Config.params
  dr := #v[Config.readableAtPowerOn 0, Config.readableAtPowerOn 1, Config.readableAtPowerOn 2,
    Config.readableAtPowerOn 3, Config.readableAtPowerOn 4, Config.readableAtPowerOn 5,
    Config.readableAtPowerOn 6, Config.readableAtPowerOn 7, Config.readableAtPowerOn 8,
    Config.readableAtPowerOn 9]
  dw := #v[Config.writableAtPowerOn 0, Config.writableAtPowerOn 1, Config.writableAtPowerOn 2,
    Config.writableAtPowerOn 3]
  bus := .answers Config.firstCount
  resetIn := false
  chan := { count := 0, rows := [] }
  events := []
  draws := 0

end Sys2Proof.Machine
end

