-- ==== Sys2Proof/Machine/Ops.lean ====
section
/-! DEFINITION. The named operations over the state: writes of its elements, TornRead (`60_exceptions.md` R121,
R127), the bus calls (`20_memory.md` R32 to R35, `42_sequencer_and_bus.md` R105), the hand-over to the output
channel (R106, R107), what the surroundings do between steps (R100) and reset (R140). -/

namespace Sys2Proof.Machine

/-- Write the receive buffer (R10). -/
def State.setRbuf (s : State) (v : Vector Byte 10) : State := { s with rbuf := v }

/-- Write the transmit buffer (R11). -/
def State.setWbuf (s : State) (v : Vector Byte 4) : State := { s with wbuf := v }

/-- Write sample register X (R12). -/
def State.setX (s : State) (v : Word12) : State := { s with x := v }

/-- Write sample register Y (R12). -/
def State.setY (s : State) (v : Word12) : State := { s with y := v }

/-- Write sample register Z (R12). -/
def State.setZ (s : State) (v : Word12) : State := { s with z := v }

/-- Write sample register T (R12). -/
def State.setT (s : State) (v : Word12) : State := { s with t := v }

/-- Write the validity flag (R13). -/
def State.setValid (s : State) (v : Bool) : State := { s with valid := v }

/-- `pc <- p` (R8, R15). -/
def State.goto (s : State) (p : BitVec 3) : State := { s with phase := p }

/-- The device's writable registers take a frame (R18, R35). -/
def State.setDw (s : State) (v : Vector Byte 4) : State := { s with dw := v }

/-- Note an event of the run (R109). -/
def State.record (s : State) (e : Event) : State := { s with events := e :: s.events }

/-- Note a full read and the bytes it put into the receive buffer (R101, R109). -/
def State.noteFullRead (s : State) : State := s.record (.memRead s.par.devAddr 10 s.rbuf.toList)

/-- Note a sample read and the bytes it put into positions 0 to 6 of the receive buffer (R104, R109). -/
def State.noteSampleRead (s : State) : State := s.record (.memRead s.par.devAddr 7 (sampleFrame s.rbuf).toList)

/-- A free draw is used up. -/
def State.drawn (s : State) : State := { s with draws := s.draws + 1 }

/-- `raise TornRead` (R121, R127): the whole of taking the block's one exception. The flag is cleared; nothing is
saved, no mode changes and control goes nowhere else. There is no return operation (R128). -/
def State.raiseTornRead (s : State) : State := s.setValid false

/-- The torn-read test on the byte 3 of the receive buffer (R88). -/
def State.checkStatus (s : State) : State :=
  if frameValid s.rbuf[3] then s.setValid true else s.raiseTornRead

/-- A bus call (R32, R105): it completes with the number of bytes moved, or it never returns and the operation has no
step (log entry 10). -/
def onBus (s : State) (completed : Nat → State) : Host.Outcome State Fault Refusal :=
  match s.bus with
  | .answers count => .next (completed count)
  | .stalls => .fault .busStalled

/-- Byte `i` of a bus read of which `count` bytes arrived (R33, R34): register `i` of the device as the state holds
it, or a free value where the byte is missing. -/
def State.busByte (s : State) (count : Nat) (i : Fin 10) : Byte :=
  if i.val < count then s.dr[i] else Config.any8 s.draws i

/-- `rbuf[0..9] <- MemRead(0, 10)` (R101). -/
def State.loadFull (s : State) (count : Nat) : State :=
  s.setRbuf #v[s.busByte count 0, s.busByte count 1, s.busByte count 2, s.busByte count 3, s.busByte count 4,
    s.busByte count 5, s.busByte count 6, s.busByte count 7, s.busByte count 8, s.busByte count 9]

/-- `rbuf[0..6] <- MemRead(0, 7)`, positions 7 to 9 kept (R104, R10). -/
def State.loadSample (s : State) (count : Nat) : State :=
  s.setRbuf #v[s.busByte count 0, s.busByte count 1, s.busByte count 2, s.busByte count 3, s.busByte count 4,
    s.busByte count 5, s.busByte count 6, s.rbuf[7], s.rbuf[8], s.rbuf[9]]

/-- `MemWrite(0, 4, wbuf)` (R35): the device takes all four bytes of a write that succeeds in full; after any other
its writable registers are unknown, so free values (R123). -/
def State.storeConfig (s : State) (count : Nat) : State :=
  if 4 ≤ count then s.setDw s.wbuf
  else s.setDw #v[Config.unknownWrite s.draws 0, Config.unknownWrite s.draws 1, Config.unknownWrite s.draws 2,
    Config.unknownWrite s.draws 3]

/-- What the block presents (R106): the signed Sample while `valid` is 1, else the error marker alone. -/
def State.presented (s : State) : Output :=
  if s.valid then .sample (s12 s.x) (s12 s.y) (s12 s.z) (s12 s.t) else .errorMarker

/-- The output channel takes an Output (R107): a header before every sample whose index is a multiple of 15; an error
marker is no sample and does not count (D17). -/
def Channel.receive (c : Channel) : Output → Channel
  | .sample x y z t =>
    { count := c.count + 1
      rows := .sample x y z t :: (if c.count % 15 = 0 then .header :: c.rows else c.rows) }
  | .errorMarker => { c with rows := .errorMarker :: c.rows }

/-- Hand an Output to the output channel: one Output event, and the channel receives it (R106). -/
def State.deliver (s : State) (o : Output) : State :=
  { s with chan := s.chan.receive o, events := .output o :: s.events }

/-- What happens outside the block after a step (R100, R32): the issued select code is used up; the device may have
changed any of its readable registers, in a way that depends on its configuration and is open (R19 (a), R145); the transport has made up its mind about the next call. -/
def State.advance (s : State) : State :=
  { s with
    sel := none
    dr := #v[Config.liveByte s.dw s.draws 0, Config.liveByte s.dw s.draws 1, Config.liveByte s.dw s.draws 2,
      Config.liveByte s.dw s.draws 3, Config.liveByte s.dw s.draws 4, Config.liveByte s.dw s.draws 5,
      Config.liveByte s.dw s.draws 6, Config.liveByte s.dw s.draws 7, Config.liveByte s.dw s.draws 8,
      Config.liveByte s.dw s.draws 9]
    bus := Config.transport s.draws
    draws := s.draws + 1 }

/-- The block under an applied reset (R140): its registers are those of R20 and a new run begins; the parameters, the
device and the collaborators keep what they have. -/
def State.applyReset (s : State) : State :=
  { s with
    rbuf := State.reset.rbuf
    wbuf := State.reset.wbuf
    x := State.reset.x
    y := State.reset.y
    z := State.reset.z
    t := State.reset.t
    valid := State.reset.valid
    phase := State.reset.phase
    sel := none
    events := [] }

end Sys2Proof.Machine
end

