-- ==== Sys2Proof/Machine/Configurator.lean ====
section
/-! DEFINITION. The Configurator family (`40_configurator.md`): CFG0 to CFG3 and MERGE. No operation here has an
exception or writes a flag. -/

namespace Sys2Proof.Machine

/-- CFG0 (R72). -/
def execCfg0 (s : State) : Host.Outcome State Fault Refusal :=
  .next (s.setWbuf (s.wbuf.set 0 cfgByte0))

/-- CFG1 (R73). -/
def execCfg1 (s : State) : Host.Outcome State Fault Refusal :=
  .next (s.setWbuf (s.wbuf.set 1 (cfgByte1 s.rbuf[7] s.par.preset[1])))

/-- CFG2 (R74). -/
def execCfg2 (s : State) : Host.Outcome State Fault Refusal :=
  .next (s.setWbuf (s.wbuf.set 2 (cfgByte2 s.rbuf[8] s.par.preset[2])))

/-- CFG3 (R75). -/
def execCfg3 (s : State) : Host.Outcome State Fault Refusal :=
  .next (s.setWbuf (s.wbuf.set 3 (cfgByte3 s.rbuf[9] s.par.preset[3])))

/-- MERGE (R76): the four ConfigFrame bytes together, then phase 2. Total for every preset, well formed or not. -/
def execMerge (s : State) : Host.Outcome State Fault Refusal :=
  .next ((s.setWbuf (mergeFrame s.rbuf s.par.preset)).goto 2)

end Sys2Proof.Machine
end

