-- ==== Sys2Proof/Machine/SampleDecoder.lean ====
section
/-! DEFINITION. The SampleDecoder family (`41_sample_decoder.md`): EXTX, EXTY, EXTZ, EXTT, CHKV and DECODE. -/

namespace Sys2Proof.Machine

/-- EXTX (R83). -/
def execExtx (s : State) : Host.Outcome State Fault Refusal :=
  .next (s.setX (channelX s.rbuf[0] s.rbuf[4]))

/-- EXTY (R84). -/
def execExty (s : State) : Host.Outcome State Fault Refusal :=
  .next (s.setY (channelY s.rbuf[1] s.rbuf[4]))

/-- EXTZ (R85). -/
def execExtz (s : State) : Host.Outcome State Fault Refusal :=
  .next (s.setZ (channelZ s.rbuf[2] s.rbuf[5]))

/-- EXTT (R86). -/
def execExtt (s : State) : Host.Outcome State Fault Refusal :=
  .next (s.setT (channelT s.rbuf[3] s.rbuf[6]))

/-- CHKV (R88): `valid`, with TornRead when a STATUS bit is set. -/
def execChkv (s : State) : Host.Outcome State Fault Refusal :=
  .next s.checkStatus

/-- DECODE (R89): the four channels and the validity of the frame in the receive buffer, then phase 6. On a torn
frame the sample registers still take the computed values (R90). -/
def execDecode (s : State) : Host.Outcome State Fault Refusal :=
  let d := decodeFrame (sampleFrame s.rbuf)
  .next (((((s.setX d.x).setY d.y).setZ d.z).setT d.t).checkStatus.goto 6)

end Sys2Proof.Machine
end

