-- ==== Sys2Proof/Machine/Sequencer.lean ====
section
/-! DEFINITION. The bus operations, the wait and the hand-over (`42_sequencer_and_bus.md`): RDFULL, WRCFG, WAIT,
RDSMP, EMIT. The successor each writes is a constant (R108). -/

namespace Sys2Proof.Machine

/-- RDFULL (R101): a bus read of ten registers into the receive buffer, then phase 1. -/
def execRdfull (s : State) : Host.Outcome State Fault Refusal :=
  onBus s fun count => ((s.loadFull count).noteFullRead.drawn).goto 1

/-- WRCFG (R102): one bus write of the four ConfigFrame bytes, then phase 3. The block is the same whether or not the
device took them (R123). -/
def execWrcfg (s : State) : Host.Outcome State Fault Refusal :=
  onBus s fun count => (((s.storeConfig count).record (.memWrite s.par.devAddr s.wbuf)).drawn).goto 3

/-- WAIT (R103): nothing but phase 4. -/
def execWait (s : State) : Host.Outcome State Fault Refusal :=
  .next (s.goto 4)

/-- RDSMP (R104): a bus read of seven registers into positions 0 to 6, then phase 5. -/
def execRdsmp (s : State) : Host.Outcome State Fault Refusal :=
  onBus s fun count => ((s.loadSample count).noteSampleRead.drawn).goto 5

/-- EMIT (R106): the Sample or the error marker goes to the output channel, then phase 3. -/
def execEmit (s : State) : Host.Outcome State Fault Refusal :=
  .next ((s.deliver s.presented).goto 3)

end Sys2Proof.Machine
end

