-- ==== Sys2Proof/Syntax.lean ====
section
/-! DEFINITION. The operations of TLV493D-RFM, one constructor per row of `spec/opcode_table.json`
(`30_encoding.md` rules R56, R57), and the two forms of operation code. No operation has an operand: every
source and destination is fixed (R63). -/

namespace Sys2Proof

/-- The sixteen operations: seven sequenced ones (format P, R56) and nine field operations (format F, R57). -/
inductive Instr where
  /-- P 0: read the full frame (R101). -/
  | rdfull
  /-- P 1: build the ConfigFrame (R76). -/
  | merge
  /-- P 2: write the ConfigFrame to the device (R102). -/
  | wrcfg
  /-- P 3: wait the inter-cycle delay (R103). -/
  | wait
  /-- P 4: read the sample frame (R104). -/
  | rdsmp
  /-- P 5: build the Sample (R89). -/
  | decode
  /-- P 6: hand the Sample or the error marker to the output channel (R106). -/
  | emit
  /-- F 0: ConfigFrame byte 0 (R72). -/
  | cfg0
  /-- F 1: ConfigFrame byte 1 (R73). -/
  | cfg1
  /-- F 2: ConfigFrame byte 2 (R74). -/
  | cfg2
  /-- F 3: ConfigFrame byte 3 (R75). -/
  | cfg3
  /-- F 4: the X channel (R83). -/
  | extx
  /-- F 5: the Y channel (R84). -/
  | exty
  /-- F 6: the Z channel (R85). -/
  | extz
  /-- F 7: the T channel (R86). -/
  | extt
  /-- F 8: the torn-read test (R88). -/
  | chkv
  deriving DecidableEq, Repr

/-- An operation code: a 3-bit `phase` (format P, R56) or a 4-bit `sel` (format F, R57). The two code spaces are
separate: phase 0 is RDFULL and sel 0 is CFG0. -/
inductive Code where
  | p (phase : BitVec 3)
  | f (sel : BitVec 4)
  deriving DecidableEq, Repr

/-- The number a code is. -/
def Code.value : Code → Nat
  | .p c => c.toNat
  | .f c => c.toNat

/-- How many bits a code has: the `width` of its row in the opcode table. -/
def Code.width : Code → Nat
  | .p _ => 3
  | .f _ => 4

/-- Whether an operation is sequenced (format P) rather than a field operation (format F). -/
def Instr.sequenced : Instr → Bool
  | .rdfull | .merge | .wrcfg | .wait | .rdsmp | .decode | .emit => true
  | .cfg0 | .cfg1 | .cfg2 | .cfg3 | .extx | .exty | .extz | .extt | .chkv => false

end Sys2Proof
end

