-- ==== Sys2Proof/Machine/Dispatch.lean ====
section
/-! DEFINITION. The meaning of every operation of `spec/opcode_table.json`, one arm each. -/

namespace Sys2Proof.Machine

/-- What an operation does to a state. -/
def exec (i : Instr) (s : State) : Host.Outcome State Fault Refusal :=
  match i with
  | .rdfull => Sys2Proof.Machine.execRdfull s
  | .merge => Sys2Proof.Machine.execMerge s
  | .wrcfg => Sys2Proof.Machine.execWrcfg s
  | .wait => Sys2Proof.Machine.execWait s
  | .rdsmp => Sys2Proof.Machine.execRdsmp s
  | .decode => Sys2Proof.Machine.execDecode s
  | .emit => Sys2Proof.Machine.execEmit s
  | .cfg0 => Sys2Proof.Machine.execCfg0 s
  | .cfg1 => Sys2Proof.Machine.execCfg1 s
  | .cfg2 => Sys2Proof.Machine.execCfg2 s
  | .cfg3 => Sys2Proof.Machine.execCfg3 s
  | .extx => Sys2Proof.Machine.execExtx s
  | .exty => Sys2Proof.Machine.execExty s
  | .extz => Sys2Proof.Machine.execExtz s
  | .extt => Sys2Proof.Machine.execExtt s
  | .chkv => Sys2Proof.Machine.execChkv s

end Sys2Proof.Machine
end

