-- ==== Sys2Proof/WellFormed.lean ====
section
/-! DEFINITION. The checks of the spec: the codes that are operations (`30_encoding.md` rule R61), the calibration
mask and the well-formed preset (`40_configurator.md` rules R70, R71), and the admitted parameters (R5). An
operation itself has no operand, so every `Instr` is well formed. -/

namespace Sys2Proof

/-- A code that names an operation: phase 7 and sel 9 to 15 are reserved (R61). -/
def Code.wf : Code → Bool
  | .p c => decide (c.toNat < 7)
  | .f c => decide (c.toNat < 9)

/-- `CALMASK[0..3]`: a 1 at every bit of a ConfigFrame byte that carries a calibration bit (R70). -/
def calMask : Vector Byte 4 := #v[0x00#8, 0x78#8, 0xFF#8, 0x0F#8]

/-- `PresetWF` (R71): byte 0 is zero and no later byte sits on a calibration bit. -/
def presetWF (P : Vector Byte 4) : Bool :=
  P[0] == 0x00#8 && P[1] &&& 0x78#8 == 0x00#8 && P[2] == 0x00#8 && P[3] &&& 0x0F#8 == 0x00#8

/-- The admitted parameters: a well-formed preset (R71, D18) that is not FastMode (R5). -/
def Params.admitted (p : Params) : Bool :=
  presetWF p.preset && p.presetName != .fastMode

end Sys2Proof
end

