-- ==== Sys2Proof/Decode.lean ====
section
/-! DEFINITION. From operation codes to operations and back (`30_encoding.md` rules R56, R57, R61), and the reading
of a word of the opcode table. -/

namespace Sys2Proof

/-- Why a code is no operation (R61): the reserved phase 7, or a reserved select code 9 to 15. -/
inductive DecodeError where
  | reservedPhase (code : BitVec 3)
  | reservedSel (code : BitVec 4)
  deriving DecidableEq, Repr

/-- The sequenced operation of a `phase` code (R56). -/
def decodePhase (c : BitVec 3) : Except DecodeError Instr :=
  match c.toNat with
  | 0 => .ok .rdfull
  | 1 => .ok .merge
  | 2 => .ok .wrcfg
  | 3 => .ok .wait
  | 4 => .ok .rdsmp
  | 5 => .ok .decode
  | 6 => .ok .emit
  | _ => .error (.reservedPhase c)

/-- The field operation of a `sel` code (R57). -/
def decodeSel (c : BitVec 4) : Except DecodeError Instr :=
  match c.toNat with
  | 0 => .ok .cfg0
  | 1 => .ok .cfg1
  | 2 => .ok .cfg2
  | 3 => .ok .cfg3
  | 4 => .ok .extx
  | 5 => .ok .exty
  | 6 => .ok .extz
  | 7 => .ok .extt
  | 8 => .ok .chkv
  | _ => .error (.reservedSel c)

/-- The operation a code names, or the reserved code it is. -/
def decode : Code → Except DecodeError Instr
  | .p c => decodePhase c
  | .f c => decodeSel c

/-- The code of an operation (R56, R57). -/
def encode : Instr → Code
  | .rdfull => .p 0b000#3
  | .merge => .p 0b001#3
  | .wrcfg => .p 0b010#3
  | .wait => .p 0b011#3
  | .rdsmp => .p 0b100#3
  | .decode => .p 0b101#3
  | .emit => .p 0b110#3
  | .cfg0 => .f 0b0000#4
  | .cfg1 => .f 0b0001#4
  | .cfg2 => .f 0b0010#4
  | .cfg3 => .f 0b0011#4
  | .extx => .f 0b0100#4
  | .exty => .f 0b0101#4
  | .extz => .f 0b0110#4
  | .extt => .f 0b0111#4
  | .chkv => .f 0b1000#4

/-- The operation a decoding gives, if any. -/
def accepted : Except DecodeError Instr → Option Instr
  | .ok i => some i
  | .error _ => none

/-- The operation whose `phase` code is the number `w`. -/
def phaseWord (w : Nat) : Option Instr :=
  if w < 8 then accepted (decode (.p (BitVec.ofNat 3 w))) else none

/-- The operation whose `sel` code is the number `w`. -/
def selWord (w : Nat) : Option Instr :=
  if w < 16 then accepted (decode (.f (BitVec.ofNat 4 w))) else none

/-- The operation of a table word `w` of `nbits` bits. Three bits are a `phase` code and four bits a `sel` code, as
the table's widths say. A word of whole bytes does not say which of the two it is: DESIGN CHOICE, log entry 13, it
is the sequenced operation where there is one, else the field operation. -/
def decodeTableWord (nbits w : Nat) : Option Instr :=
  if nbits = 3 then phaseWord w
  else if nbits = 4 then selWord w
  else (phaseWord w).or (selWord w)

end Sys2Proof
end

