-- ==== Sys2Proof/Machine/Fetch.lean ====
section
/-! DEFINITION. Which operation comes next. The block fetches nothing from a memory (`20_memory.md` rule R44): the
next operation is the one whose code `phase` holds (`10_state.md` rule R15), unless a field operation is issued
alone by its select code (`30_encoding.md` rule R57; log entry 12). -/

namespace Sys2Proof.Machine

/-- The code of the next operation. -/
def State.nextCode (s : State) : Code :=
  match s.sel with
  | some c => .f c
  | none => .p s.phase

/-- The refusal of a reserved code (R61, D12). -/
def refusalOf : DecodeError → Refusal
  | .reservedPhase c => .reservedPhase c
  | .reservedSel c => .reservedSel c

/-- The next operation, or the refusal of a reserved code. -/
def State.fetch (s : State) : Except Refusal Instr :=
  match decode s.nextCode with
  | .ok i => .ok i
  | .error e => .error (refusalOf e)

/-- Apply `f` to the next state of an outcome. -/
def afterNext (o : Host.Outcome State Fault Refusal) (f : State → State) : Host.Outcome State Fault Refusal :=
  match o with
  | .next s => .next (f s)
  | .fault r => .fault r
  | .refused r => .refused r

/-- Issue a code: `phase` takes a P code, the select input an F code; reset is released. -/
def State.issue (s : State) : Code → State
  | .p c => { s with phase := c, sel := none, resetIn := false }
  | .f c => { s with sel := some c, resetIn := false }

/-- The code that a table word of `nbits` bits is issued as: that of the operation it decodes to, else a reserved code,
which the fetch refuses by name. -/
def tableCode (nbits w : Nat) : Code :=
  match decodeTableWord nbits w with
  | some i => encode i
  | none => if nbits = 3 then .p 7#3 else if 9 ≤ w ∧ w ≤ 15 then .f (BitVec.ofNat 4 w) else .f 15#4

end Sys2Proof.Machine
end

