-- ==== Sys2Proof/Machine/Step.lean ====
section
/-! DEFINITION. One step of the machine (`42_sequencer_and_bus.md` rule R100): one operation of the block, to
completion, and then whatever the device and the transport do on their own. -/

namespace Sys2Proof.Machine

/-- While reset is applied the block performs no operation and is held in its reset state (R140). Otherwise the next
operation runs, or its code is refused. -/
def step (s : State) : Host.Outcome State Fault Refusal :=
  if s.resetIn then .next s.applyReset.advance
  else
    match s.fetch with
    | .ok i => afterNext (exec i s) State.advance
    | .error r => .refused r

/-- `s` with the operation of a table word placed where `step` takes its next operation (log entry 20). -/
def State.withFetchWord (s : State) (nbits w : Nat) : State := s.issue (tableCode nbits w)

end Sys2Proof.Machine
end

