-- ==== Sys2Proof/Safety.lean ====
section
/-! DEFINITION. The terms the statements are written in: the successor table (`42_sequencer_and_bus.md` rule R108),
the read and write table (`10_state.md` rule R21), the event sequence a run is judged by (R109), the output
channel's rows (R107), the values T can take (`41_sample_decoder.md` rule R87) and the defect that is not
implemented (R92). -/

namespace Sys2Proof

open Sys2Proof.Machine

/-- The phase an operation writes when it completes (R108); a field operation writes none (R57, R21). -/
def Instr.nextPhase : Instr → Option (BitVec 3)
  | .rdfull => some 1
  | .merge => some 2
  | .wrcfg => some 3
  | .wait => some 4
  | .rdsmp => some 5
  | .decode => some 6
  | .emit => some 3
  | .cfg0 | .cfg1 | .cfg2 | .cfg3 | .extx | .exty | .extz | .extt | .chkv => none

/-- The state elements of the table of R21. -/
inductive Elem where
  | rbuf (i : Fin 10)
  | wbuf (i : Fin 4)
  | x
  | y
  | z
  | t
  | valid
  | phase
  | preset (i : Fin 4)
  | devAddr
  | delay
  | dr (i : Fin 10)
  | dw (i : Fin 4)
  deriving DecidableEq, Repr

/-- The content of an element, as a number. -/
def Machine.State.elem (s : State) : Elem → Nat
  | .rbuf i => s.rbuf[i].toNat
  | .wbuf i => s.wbuf[i].toNat
  | .x => s.x.toNat
  | .y => s.y.toNat
  | .z => s.z.toNat
  | .t => s.t.toNat
  | .valid => s.valid.toNat
  | .phase => s.phase.toNat
  | .preset i => s.par.preset[i].toNat
  | .devAddr => s.par.devAddr
  | .delay => s.par.delay
  | .dr i => s.dr[i].toNat
  | .dw i => s.dw[i].toNat

/-- The column "reads" of R21. -/
def Instr.reads : Instr → Elem → Bool
  | .cfg0, _ => false
  | .cfg1, e => e == .rbuf 7 || e == .preset 1
  | .cfg2, e => e == .rbuf 8 || e == .preset 2
  | .cfg3, e => e == .rbuf 9 || e == .preset 3
  | .merge, e => e == .rbuf 7 || e == .rbuf 8 || e == .rbuf 9 || e == .preset 1 || e == .preset 2 || e == .preset 3
  | .extx, e => e == .rbuf 0 || e == .rbuf 4
  | .exty, e => e == .rbuf 1 || e == .rbuf 4
  | .extz, e => e == .rbuf 2 || e == .rbuf 5
  | .extt, e => e == .rbuf 3 || e == .rbuf 6
  | .chkv, e => e == .rbuf 3
  | .decode, .rbuf i => decide (i.val < 7)
  | .decode, _ => false
  | .rdfull, .devAddr => true
  | .rdfull, .dr _ => true
  | .rdfull, _ => false
  | .wrcfg, .devAddr => true
  | .wrcfg, .wbuf _ => true
  | .wrcfg, _ => false
  | .wait, e => e == .delay
  | .rdsmp, .devAddr => true
  | .rdsmp, .dr i => decide (i.val < 7)
  | .rdsmp, _ => false
  | .emit, e => e == .x || e == .y || e == .z || e == .t || e == .valid

/-- The column "writes" of R21; EMIT also writes the output channel. -/
def Instr.writes : Instr → Elem → Bool
  | .cfg0, e => e == .wbuf 0
  | .cfg1, e => e == .wbuf 1
  | .cfg2, e => e == .wbuf 2
  | .cfg3, e => e == .wbuf 3
  | .merge, .wbuf _ => true
  | .merge, e => e == .phase
  | .extx, e => e == .x
  | .exty, e => e == .y
  | .extz, e => e == .z
  | .extt, e => e == .t
  | .chkv, e => e == .valid
  | .decode, e => e == .x || e == .y || e == .z || e == .t || e == .valid || e == .phase
  | .rdfull, .rbuf _ => true
  | .rdfull, e => e == .phase
  | .wrcfg, .dw _ => true
  | .wrcfg, e => e == .phase
  | .wait, e => e == .phase
  | .rdsmp, .rbuf i => decide (i.val < 7)
  | .rdsmp, e => e == .phase
  | .emit, e => e == .phase

/-- Run a list of operations, stopping at the first that gives no next state. -/
def runOps : List Instr → State → Host.Outcome State Fault Refusal
  | [], s => .next s
  | i :: is, s =>
    match exec i s with
    | .next u => runOps is u
    | .fault r => .fault r
    | .refused r => .refused r

/-- The Output that presents a Sample (R106). -/
def outputOf (d : Sample) : Output :=
  if d.valid then .sample (s12 d.x) (s12 d.y) (s12 d.z) (s12 d.t) else .errorMarker

/-- The Sample the registers hold. -/
def Machine.State.sampleRegs (s : State) : Sample :=
  { x := s.x, y := s.y, z := s.z, t := s.t, valid := s.valid }

/-- The events of a finished configuration and of some whole cycles after it, newest first (R109): one ten-register
read and one write of the frame merged from the bytes it returned, then per cycle one seven-register read and one
Output of the frame it returned, decoded; all addressed to the device. -/
inductive Settled (addr : Nat) (preset : Vector Byte 4) : List Event → Prop
  | configured (raw : Vector Byte 10) :
      Settled addr preset [.memWrite addr (mergeFrame raw preset), .memRead addr 10 raw.toList]
  | cycle (f : Vector Byte 7) (rest : List Event) : Settled addr preset rest →
      Settled addr preset (.output (outputOf (decodeFrame f)) :: .memRead addr 7 f.toList :: rest)

/-- The events so far are those of the phase the sequencer is in (R108, R109); from a read to the operation that uses it,
the receive buffer holds what that read returned (R10). Phase 7 is never reached (R15). -/
def TraceOK (s : State) : Prop :=
  match s.phase.toNat with
  | 0 => s.events = []
  | 1 => s.events = [.memRead s.par.devAddr 10 s.rbuf.toList]
  | 2 => s.events = [.memRead s.par.devAddr 10 s.rbuf.toList]
  | 3 => Settled s.par.devAddr s.par.preset s.events
  | 4 => Settled s.par.devAddr s.par.preset s.events
  | 5 => ∃ rest, s.events = .memRead s.par.devAddr 7 (sampleFrame s.rbuf).toList :: rest ∧
    Settled s.par.devAddr s.par.preset rest
  | 6 => ∃ rest, s.events = .memRead s.par.devAddr 7 (sampleFrame s.rbuf).toList :: rest ∧
    Settled s.par.devAddr s.par.preset rest
  | _ => False

/-- The invariant of a run: its events fit its phase; when WRCFG is next, `wbuf` holds the merged frame; when EMIT is
next, the sample registers hold the decoded frame (R14, R109). -/
def RunInv (s : State) : Prop :=
  TraceOK s ∧ (s.phase = 2 → s.wbuf = mergeFrame s.rbuf s.par.preset) ∧
    (s.phase = 6 → s.sampleRegs = decodeFrame (sampleFrame s.rbuf))

/-- The rows an output channel has rendered, newest first, with the number of samples among them (R107, D17): a header
stands before exactly the samples whose index is a multiple of 15. -/
inductive Laid : List Row → Nat → Prop
  | nil : Laid [] 0
  | marker {rows : List Row} {n : Nat} : Laid rows n → Laid (.errorMarker :: rows) n
  | headed {rows : List Row} {n : Nat} (x y z t : Int) : Laid rows n → n % 15 = 0 →
      Laid (.sample x y z t :: .header :: rows) (n + 1)
  | plain {rows : List Row} {n : Nat} (x y z t : Int) : Laid rows n → n % 15 ≠ 0 →
      Laid (.sample x y z t :: rows) (n + 1)

/-- The output channel's rows are laid out for its count. -/
def ChannelOK (s : State) : Prop := Laid s.chan.rows s.chan.count

/-- The values T can take (R87): `{h, 0b0000, l}` read as signed. -/
def tValue (v : Int) : Prop :=
  ∃ h l : Nat, h < 16 ∧ l < 16 ∧ v = if h < 8 then 256 * (h : Int) + l else 256 * (h : Int) + l - 4096

/-- The defect of the reference software for X (R92): not to be implemented, and used by no operation. -/
def refX (r : Word12) : Int := if r.toNat > 1023 then (r.toNat : Int) - 2048 else r.toNat

/-- The defect of the reference software for Y, Z, T (R92): not to be implemented, and used by no operation. -/
def refYZT (r : Word12) : Int := if r.toNat > 1024 then (r.toNat : Int) - 2048 else r.toNat

end Sys2Proof
end

