-- ==== Sys2Proof/Certificates/Slice0/Obligations.lean ====
section
/-! DEFINITION. The statements for the provers. Each docstring names the rule of `spec/` it formalises. A next state
written as a record update of `s` states the operation's result and its frame at once: every element not named keeps
its value. -/

open Sys2Proof Sys2Proof.Machine

/-! ## Codes and the step -/

/-- The codes of the tables in `30_encoding.md` section 3, bit by bit. -/
def Obligations.TableCodesDecode : Prop :=
  decode (.p 0b000#3) = .ok .rdfull ∧ decode (.p 0b001#3) = .ok .merge ∧ decode (.p 0b010#3) = .ok .wrcfg ∧
  decode (.p 0b011#3) = .ok .wait ∧ decode (.p 0b100#3) = .ok .rdsmp ∧ decode (.p 0b101#3) = .ok .decode ∧
  decode (.p 0b110#3) = .ok .emit ∧ decode (.f 0b0000#4) = .ok .cfg0 ∧ decode (.f 0b0001#4) = .ok .cfg1 ∧
  decode (.f 0b0010#4) = .ok .cfg2 ∧ decode (.f 0b0011#4) = .ok .cfg3 ∧ decode (.f 0b0100#4) = .ok .extx ∧
  decode (.f 0b0101#4) = .ok .exty ∧ decode (.f 0b0110#4) = .ok .extz ∧ decode (.f 0b0111#4) = .ok .extt ∧
  decode (.f 0b1000#4) = .ok .chkv

/-- Decoding and encoding agree on all operations and all codes; exactly the well-formed codes are operations; a table
word of a row's own width is read as that row, whatever word decodes to an operation is that operation's code, and
placing it is fetching it. That a word of whole bytes is read at all is the model's choice, log entry 13. -/
def Obligations.DecodeAndEncodeAgree : Prop :=
  (∀ i, decode (encode i) = .ok i) ∧
  (∀ c i, decode c = .ok i → encode i = c) ∧
  (∀ c : Code, c.wf = true ↔ ∃ i, decode c = .ok i) ∧
  (∀ i, decodeTableWord (encode i).width (encode i).value = some i) ∧
  (∀ nbits w i, decodeTableWord nbits w = some i → w = (encode i).value) ∧
  (∀ (s : State) nbits w i, decodeTableWord nbits w = some i → (s.withFetchWord nbits w).fetch = .ok i)

/-- `42_sequencer_and_bus.md` section 1, with the model's choices of log entries 5, 7 and 12. With reset released, a
step runs the operation of the select code that is issued, or else of the phase: its next
state is that of `exec` followed by what the surroundings do, which touches the select code, the device's readable
registers, the transport's next reply and the draw counter only; a fault or a refusal of `exec` is the step's. -/
def Obligations.StepRunsTheDecodedOperation : Prop :=
  (∀ (s : State) (i : Instr), s.resetIn = false →
    (s.sel = none ∧ decode (.p s.phase) = .ok i ∨ ∃ c, s.sel = some c ∧ decode (.f c) = .ok i) →
    step s = (match exec i s with
      | .next u => .next u.advance
      | .fault r => .fault r
      | .refused r => .refused r)) ∧
  (∀ u : State, u.advance =
    { u with sel := none, dr := u.advance.dr, bus := u.advance.bus, draws := u.draws + 1 })

/-- A reserved code gives no step (decision D12). -/
def Obligations.ReservedCodesHaveNoStep : Prop :=
  (∀ s : State, s.resetIn = false → s.sel = none → s.phase = 7#3 → step s = .refused (.reservedPhase 7#3)) ∧
  (∀ (s : State) (c : BitVec 4), s.resetIn = false → s.sel = some c → 9 ≤ c.toNat →
    step s = .refused (.reservedSel c))

/-- The reset values that `10_state.md` section 6 gives: phase 0 and valid 0, so that the first operation is RDFULL;
the channel's count starts at 0. That the parameters are admitted is the model's choice of them, log entries 2 and
26. -/
def Obligations.ResetStartsTheConfigurator : Prop :=
  State.reset.phase = 0#3 ∧ State.reset.valid = false ∧ State.reset.resetIn = false ∧
  State.reset.fetch = .ok .rdfull ∧ State.reset.chan.count = 0 ∧ State.reset.par.admitted = true

/-- `70_reset_and_hazards.md` section 1 (the spec's decision D11, log entry 15): while reset is applied the block
performs no operation and holds its reset state; the parameters, the device's configuration and the output channel are
not reset; once released, the first operation is RDFULL. -/
def Obligations.AppliedResetHoldsTheBlock : Prop :=
  ∀ s : State, s.resetIn = true → ∃ u, step s = .next u ∧ u.phase = 0#3 ∧ u.valid = false ∧ u.events = [] ∧
    u.par = s.par ∧ u.dw = s.dw ∧ u.chan = s.chan ∧ u.resetIn = true ∧
    State.fetch { u with resetIn := false } = .ok .rdfull

/-! ## The Configurator -/

/-- R72. -/
def Obligations.Cfg0WritesZero : Prop :=
  decode (.f 0#4) = .ok .cfg0 ∧ ∀ s : State, exec .cfg0 s = .next { s with wbuf := s.wbuf.set 0 0x00#8 }

/-- R73: the result, and the corner cases with and without a well-formed preset. -/
def Obligations.Cfg1MergesRegisterSeven : Prop :=
  decode (.f 1#4) = .ok .cfg1 ∧ ∀ s : State,
    exec .cfg1 s = .next { s with wbuf := s.wbuf.set 1 ((s.rbuf[7] &&& 0x78#8) ||| s.par.preset[1]) } ∧
    ∀ u, exec .cfg1 s = .next u →
      (presetWF s.par.preset = true → u.wbuf[1] &&& 0x78#8 = s.rbuf[7] &&& 0x78#8 ∧
        u.wbuf[1] &&& 0x87#8 = s.par.preset[1] &&& 0x87#8) ∧
      u.wbuf[1] &&& s.par.preset[1] = s.par.preset[1] ∧
      (s.rbuf[7] = 0x00#8 → u.wbuf[1] = s.par.preset[1]) ∧
      (s.rbuf[7] = 0xFF#8 → u.wbuf[1] = 0x78#8 ||| s.par.preset[1])

/-- R74: the result, a verbatim copy under a well-formed preset. -/
def Obligations.Cfg2CopiesRegisterEight : Prop :=
  decode (.f 2#4) = .ok .cfg2 ∧ ∀ s : State,
    exec .cfg2 s = .next { s with wbuf := s.wbuf.set 2 (s.rbuf[8] ||| s.par.preset[2]) } ∧
    (presetWF s.par.preset = true → exec .cfg2 s = .next { s with wbuf := s.wbuf.set 2 s.rbuf[8] })

/-- R75: the result, and the corner cases with and without a well-formed preset. -/
def Obligations.Cfg3MergesRegisterNine : Prop :=
  decode (.f 3#4) = .ok .cfg3 ∧ ∀ s : State,
    exec .cfg3 s = .next { s with wbuf := s.wbuf.set 3 ((s.rbuf[9] &&& 0x0F#8) ||| s.par.preset[3]) } ∧
    ∀ u, exec .cfg3 s = .next u →
      (presetWF s.par.preset = true → u.wbuf[3] &&& 0x0F#8 = s.rbuf[9] &&& 0x0F#8 ∧
        u.wbuf[3] &&& 0xF0#8 = s.par.preset[3] &&& 0xF0#8) ∧
      u.wbuf[3] &&& s.par.preset[3] = s.par.preset[3] ∧
      (s.rbuf[9] = 0x00#8 → u.wbuf[3] = s.par.preset[3]) ∧
      (s.rbuf[9] = 0xFF#8 → u.wbuf[3] = 0x0F#8 ||| s.par.preset[3])

/-- MERGE of `40_configurator.md` section 3: the four bytes for every receive buffer and every preset; the field
operations in any order build the same frame (an inference the spec marks as its own); bytes 0 to 6 are not read;
running it again changes nothing. -/
def Obligations.MergeBuildsTheConfigFrame : Prop :=
  decode (.p 1#3) = .ok .merge ∧
  (∀ s : State, exec .merge s = .next { s with
    wbuf := #v[0x00#8, (s.rbuf[7] &&& 0x78#8) ||| s.par.preset[1], s.rbuf[8] ||| s.par.preset[2],
      (s.rbuf[9] &&& 0x0F#8) ||| s.par.preset[3]]
    phase := 2#3 }) ∧
  (∀ (s : State) (ops : List Instr), ops.Perm [.cfg0, .cfg1, .cfg2, .cfg3] →
    ∃ u, runOps ops s = .next u ∧ exec .merge s = .next (u.goto 2#3)) ∧
  (∀ s s' u u' : State, s.rbuf[7] = s'.rbuf[7] → s.rbuf[8] = s'.rbuf[8] → s.rbuf[9] = s'.rbuf[9] →
    s.par.preset = s'.par.preset → exec .merge s = .next u → exec .merge s' = .next u' → u.wbuf = u'.wbuf) ∧
  (∀ s u : State, exec .merge s = .next u → exec .merge u = .next u)

/-- The guarantee of `40_configurator.md` section 4, parts (a), (b), (c), which the spec marks as derived: calibration
preserved, mode bits applied. -/
def Obligations.MergeGuarantee : Prop :=
  (∀ (raw : Vector Byte 10) (P : Vector Byte 4), (mergeFrame raw P)[0] = 0x00#8 ∧
    ∀ (i : Nat) (_ : 1 ≤ i) (hi : i < 4),
      (mergeFrame raw P)[i] = (raw[i + 6] &&& calMask[i]) ||| P[i] ∧
      (mergeFrame raw P)[i] &&& ~~~P[i] = raw[i + 6] &&& calMask[i] &&& ~~~P[i] ∧
      (mergeFrame raw P)[i] &&& ~~~calMask[i] &&& ~~~P[i] = 0x00#8) ∧
  (∀ (raw : Vector Byte 10) (P : Vector Byte 4), presetWF P = true →
    (mergeFrame raw P)[2] = raw[8] ∧ (mergeFrame raw P)[0] = P[0] ∧ P[0] = 0x00#8 ∧
    ∀ (i : Nat) (_ : 1 ≤ i) (hi : i < 4),
      (mergeFrame raw P)[i] &&& calMask[i] = raw[i + 6] &&& calMask[i] ∧
      (mergeFrame raw P)[i] &&& ~~~calMask[i] = P[i]) ∧
  (∀ (raw raw' : Vector Byte 10) (P : Vector Byte 4), raw[7] &&& 0x78#8 = raw'[7] &&& 0x78#8 →
    raw[8] = raw'[8] → raw[9] &&& 0x0F#8 = raw'[9] &&& 0x0F#8 → mergeFrame raw P = mergeFrame raw' P)

/-! ## The SampleDecoder -/

/-- R80. -/
def Obligations.AssemblyIsConcatenation : Prop :=
  (∀ (H : Byte) (N : Nibble), asm12 H N = (H.setWidth 12 <<< 4) ||| N.setWidth 12 ∧ asm12 H N = H ++ N ∧
    (asm12 H N).toNat = 16 * H.toNat + N.toNat ∧
    (asm12 H N).extractLsb' 4 8 = H ∧ (asm12 H N).extractLsb' 0 4 = N) ∧
  (∀ r : Word12, ∃ H N, asm12 H N = r)

/-- R81: the signed reading, and that EMIT reads all four channels by it. -/
def Obligations.SignedReadingOfTwelveBits : Prop :=
  (∀ r : Word12, s12 r = (if r.toNat < 2048 then (r.toNat : Int) else r.toNat - 4096) ∧
    -2048 ≤ s12 r ∧ s12 r ≤ 2047 ∧ s12 r = r.toNat - 4096 * (r.getLsbD 11).toNat ∧ s12 r = r.toInt) ∧
  (∀ s : State, s.valid = true → s.presented = .sample (s12 s.x) (s12 s.y) (s12 s.z) (s12 s.t))

/-- `41_sample_decoder.md` section 2 (d), and the sign extension of a sample value at a wider interface
(decision D14). -/
def Obligations.SignedReadingIsABijection : Prop :=
  (∀ r r' : Word12, s12 r = s12 r' → r = r') ∧
  (∀ v : Int, -2048 ≤ v → v ≤ 2047 → s12 (pattern12 v) = v ∧ ((pattern12 v).toNat : Int) = v % 4096) ∧
  (∀ (n : Nat) (r : Word12), 12 ≤ n → (sextSample n r).toInt = s12 r)

/-- R83: the pattern is the high byte over the upper nibble of the companion byte; the two boundary values. -/
def Obligations.ExtxTakesTheUpperNibble : Prop :=
  decode (.f 4#4) = .ok .extx ∧ ∀ s : State,
    exec .extx s = .next { s with x := s.rbuf[0] ++ s.rbuf[4].extractLsb' 4 4 } ∧
    ∀ u, exec .extx s = .next u →
      (s.rbuf[0] = 0x7F#8 → s.rbuf[4].extractLsb' 4 4 = 0xF#4 → s12 u.x = 2047) ∧
      (s.rbuf[0] = 0x80#8 → s.rbuf[4].extractLsb' 4 4 = 0x0#4 → s12 u.x = -2048)

/-- R84: the pattern is the high byte over the lower nibble of the companion byte it shares with X. -/
def Obligations.ExtyTakesTheLowerNibble : Prop :=
  decode (.f 5#4) = .ok .exty ∧ ∀ s : State,
    exec .exty s = .next { s with y := s.rbuf[1] ++ s.rbuf[4].extractLsb' 0 4 }

/-- R85. -/
def Obligations.ExtzTakesTheLowerNibble : Prop :=
  decode (.f 6#4) = .ok .extz ∧ ∀ s : State,
    exec .extz s = .next { s with z := s.rbuf[2] ++ s.rbuf[5].extractLsb' 0 4 }

/-- R86: bits 11:8 from `rbuf[3]`, bits 7:4 always zero, bits 3:0 from `rbuf[6]`. -/
def Obligations.ExttForcesTheMiddleBitsToZero : Prop :=
  decode (.f 7#4) = .ok .extt ∧ ∀ s : State,
    exec .extt s = .next { s with t := s.rbuf[3].extractLsb' 4 4 ++ 0b0000#4 ++ s.rbuf[6].extractLsb' 0 4 }

/-- `41_sample_decoder.md` section 3, an inference the spec marks as its own: the values T takes are exactly the 256
listed; their bounds are reached. -/
def Obligations.TemperatureValues : Prop :=
  (∀ s u : State, exec .extt s = .next u → tValue (s12 u.t) ∧ -2048 ≤ s12 u.t ∧ s12 u.t ≤ 1807) ∧
  (∀ v : Int, tValue v → ∃ s u : State, exec .extt s = .next u ∧ s12 u.t = v) ∧
  tValue (-2048) ∧ tValue 1807

/-- R88: valid exactly when bits 1:0 of `rbuf[3]` are both zero, and nothing else changes. -/
def Obligations.ChkvTestsTheStatusBits : Prop :=
  decode (.f 8#4) = .ok .chkv ∧ ∀ s : State,
    exec .chkv s = .next { s with valid := decide (s.rbuf[3].extractLsb' 0 2 = 0#2) } ∧
    (s.rbuf[3] &&& 0x03#8 = 0x00#8 → exec .chkv s = .next { s with valid := true }) ∧
    (s.rbuf[3] &&& 0x03#8 ≠ 0x00#8 → exec .chkv s = .next { s with valid := false })

/-- DECODE of `41_sample_decoder.md` section 5: the five results of one frame, for every frame, from bytes 0 to 6
alone; the field operations in any order give the same (an inference the spec marks as its own). -/
def Obligations.DecodeBuildsTheSample : Prop :=
  decode (.p 5#3) = .ok .decode ∧
  (∀ s : State, exec .decode s = .next { s with
    x := s.rbuf[0] ++ s.rbuf[4].extractLsb' 4 4
    y := s.rbuf[1] ++ s.rbuf[4].extractLsb' 0 4
    z := s.rbuf[2] ++ s.rbuf[5].extractLsb' 0 4
    t := s.rbuf[3].extractLsb' 4 4 ++ 0b0000#4 ++ s.rbuf[6].extractLsb' 0 4
    valid := decide (s.rbuf[3] &&& 0x03#8 = 0x00#8)
    phase := 6#3 }) ∧
  (∀ s u : State, exec .decode s = .next u → u.sampleRegs = decodeFrame (sampleFrame s.rbuf)) ∧
  (∀ (s : State) (ops : List Instr), ops.Perm [.extx, .exty, .extz, .extt, .chkv] →
    ∃ u, runOps ops s = .next u ∧ exec .decode s = .next (u.goto 6#3))

/-- `41_sample_decoder.md` section 5 on the torn frame (the spec's decision D10, log entry 18): a torn frame clears
`valid`, the sample registers hold what the extract rules compute, and the EMIT of the same cycle presents the error
marker alone and goes on to the next cycle. That the output channel does not count the marker is the spec's decision
D17, log entry 16. -/
def Obligations.TornFrameIsNeverPresented : Prop :=
  ∀ s : State, s.rbuf[3].extractLsb' 0 2 ≠ 0#2 →
    exec .chkv s = .next { s with valid := false } ∧
    ∃ u v, exec .decode s = .next u ∧ u.valid = false ∧
      u.x = s.rbuf[0] ++ s.rbuf[4].extractLsb' 4 4 ∧ u.y = s.rbuf[1] ++ s.rbuf[4].extractLsb' 0 4 ∧
      u.z = s.rbuf[2] ++ s.rbuf[5].extractLsb' 0 4 ∧
      u.t = s.rbuf[3].extractLsb' 4 4 ++ 0b0000#4 ++ s.rbuf[6].extractLsb' 0 4 ∧
      exec .emit u = .next v ∧ v.events = .output .errorMarker :: s.events ∧
      v.chan.rows = .errorMarker :: s.chan.rows ∧ v.chan.count = s.chan.count ∧ v.phase = 3#3

/-- The round trip of `41_sample_decoder.md` section 6, which the spec marks as derived: packing representable values
and decoding the frame gives them back, with valid true, whatever the ignored bits are; the packing, field by field
(for integers outside those ranges the spec defines no packing, and the equation is then the model's choice, log entry
27); a value of T outside the 256 has no frame. -/
def Obligations.PackThenDecodeRoundTrip : Prop :=
  (∀ (x y z t : Int) (f : Vector Byte 7), -2048 ≤ x → x ≤ 2047 → -2048 ≤ y → y ≤ 2047 → -2048 ≤ z → z ≤ 2047 →
    tValue t → f[0] = (packFrame x y z t)[0] → f[1] = (packFrame x y z t)[1] → f[2] = (packFrame x y z t)[2] →
    f[3] &&& 0xF3#8 = (packFrame x y z t)[3] → f[4] = (packFrame x y z t)[4] →
    f[5] &&& 0x0F#8 = (packFrame x y z t)[5] → f[6] &&& 0x0F#8 = (packFrame x y z t)[6] →
    outputOf (decodeFrame f) = .sample x y z t) ∧
  (∀ x y z t : Int, packFrame x y z t =
    #v[(pattern12 x).extractLsb' 4 8, (pattern12 y).extractLsb' 4 8, (pattern12 z).extractLsb' 4 8,
      (pattern12 t).extractLsb' 8 4 ++ 0b0000#4, (pattern12 x).extractLsb' 0 4 ++ (pattern12 y).extractLsb' 0 4,
      0b0000#4 ++ (pattern12 z).extractLsb' 0 4, 0b0000#4 ++ (pattern12 t).extractLsb' 0 4]) ∧
  (∀ v : Int, ((pattern12 v).toNat : Int) = v % 4096) ∧
  (∀ f : Vector Byte 7, tValue (s12 (decodeFrame f).t))

/-- `41_sample_decoder.md` section 7, whose reading of the defect is the spec's own: where the reference defect and
the block's reading differ; the defect is not one to one. -/
def Obligations.ReferenceDefectIsNotTheReading : Prop :=
  s12 1024#12 = 1024 ∧ refX 1024#12 = -1024 ∧ s12 2048#12 = -2048 ∧ refX 2048#12 = 0 ∧ refYZT 2048#12 = 0 ∧
  s12 4095#12 = -1 ∧ refX 4095#12 = 2047 ∧ refYZT 4095#12 = 2047 ∧ refYZT 1024#12 = 1024 ∧
  refX 0#12 = refX 2048#12 ∧ refYZT 0#12 = refYZT 2048#12

/-- `30_encoding.md` section 4: the ignored bits of a sample frame and of a full frame change nothing; every frame
decodes and every full frame merges; the reserved codes are no operations (the spec's decision D12) and no operation
leads to the reserved phase. -/
def Obligations.IgnoredBitsChangeNothing : Prop :=
  (∀ f f' : Vector Byte 7, f[0] = f'[0] → f[1] = f'[1] → f[2] = f'[2] →
    f[3] &&& 0xF3#8 = f'[3] &&& 0xF3#8 → f[4] = f'[4] → f[5] &&& 0x0F#8 = f'[5] &&& 0x0F#8 →
    f[6] &&& 0x0F#8 = f'[6] &&& 0x0F#8 → decodeFrame f = decodeFrame f') ∧
  (∀ (raw raw' : Vector Byte 10) (P : Vector Byte 4), raw[7] &&& 0x78#8 = raw'[7] &&& 0x78#8 →
    raw[8] = raw'[8] → raw[9] &&& 0x0F#8 = raw'[9] &&& 0x0F#8 → mergeFrame raw P = mergeFrame raw' P) ∧
  (∀ s : State, (∃ u, exec .decode s = .next u) ∧ (∃ u, exec .merge s = .next u)) ∧
  (∀ (i : Instr) (s u : State), exec i s = .next u → s.phase ≠ 7#3 → u.phase ≠ 7#3) ∧
  decode (.p 7#3) = .error (.reservedPhase 7#3) ∧
  (∀ c : BitVec 4, 9 ≤ c.toNat → decode (.f c) = .error (.reservedSel c))

/-- `30_encoding.md` section 3 (zero extension is the spec's decision D13): the field multiplexer line by line, and
that it agrees with the operations: a destination of 8 bits takes `fout[7:0]`, of 12 bits `fout`, of 1 bit `fout[0]`.
-/
def Obligations.FieldMultiplexerAgrees : Prop :=
  (∀ (r : Vector Byte 10) (P : Vector Byte 4),
    fmux 0#4 r P = some 0x000#12 ∧
    fmux 1#4 r P = some (((r[7] &&& 0x78#8) ||| P[1]).setWidth 12) ∧
    fmux 2#4 r P = some ((r[8] ||| P[2]).setWidth 12) ∧
    fmux 3#4 r P = some (((r[9] &&& 0x0F#8) ||| P[3]).setWidth 12) ∧
    fmux 4#4 r P = some (r[0] ++ r[4].extractLsb' 4 4) ∧
    fmux 5#4 r P = some (r[1] ++ r[4].extractLsb' 0 4) ∧
    fmux 6#4 r P = some (r[2] ++ r[5].extractLsb' 0 4) ∧
    fmux 7#4 r P = some ((r[3] &&& 0xF0#8) ++ r[6].extractLsb' 0 4) ∧
    fmux 8#4 r P = some (if r[3] &&& 0x03#8 = 0x00#8 then 1#12 else 0#12) ∧
    ∀ sel : BitVec 4, 9 ≤ sel.toNat → fmux sel r P = none) ∧
  (∀ (s : State) (v : Word12),
    (fmux 0#4 s.rbuf s.par.preset = some v →
      exec .cfg0 s = .next { s with wbuf := s.wbuf.set 0 (v.setWidth 8) }) ∧
    (fmux 1#4 s.rbuf s.par.preset = some v →
      exec .cfg1 s = .next { s with wbuf := s.wbuf.set 1 (v.setWidth 8) }) ∧
    (fmux 2#4 s.rbuf s.par.preset = some v →
      exec .cfg2 s = .next { s with wbuf := s.wbuf.set 2 (v.setWidth 8) }) ∧
    (fmux 3#4 s.rbuf s.par.preset = some v →
      exec .cfg3 s = .next { s with wbuf := s.wbuf.set 3 (v.setWidth 8) }) ∧
    (fmux 4#4 s.rbuf s.par.preset = some v → exec .extx s = .next { s with x := v }) ∧
    (fmux 5#4 s.rbuf s.par.preset = some v → exec .exty s = .next { s with y := v }) ∧
    (fmux 6#4 s.rbuf s.par.preset = some v → exec .extz s = .next { s with z := v }) ∧
    (fmux 7#4 s.rbuf s.par.preset = some v → exec .extt s = .next { s with t := v }) ∧
    (fmux 8#4 s.rbuf s.par.preset = some v → exec .chkv s = .next { s with valid := v.getLsbD 0 }))

/-! ## The sequencer, the bus and the output channel -/

/-- RDFULL of `42_sequencer_and_bus.md` section 2, with the free values of decision D8 and log entries 6, 8 and 10: an
answered read of ten registers fills the receive buffer, a missing byte being a free value, for every
value of the draw counter; a call that does not return gives no step; no operation leads back to phase 0; of a full
frame only bytes 7 to 9 reach the ConfigFrame. -/
def Obligations.RdfullLoadsTenRegisters : Prop :=
  decode (.p 0#3) = .ok .rdfull ∧
  (∀ (s : State) (count : Nat), s.bus = .answers count → ∃ u, exec .rdfull s = .next u ∧
    (∀ i : Fin 10, u.rbuf[i] = if i.val < count then s.dr[i] else Config.any8 s.draws i) ∧
    u.phase = 1#3 ∧ u.events = .memRead s.par.devAddr 10 u.rbuf.toList :: s.events ∧
    u = { s with rbuf := u.rbuf, phase := 1#3, events := u.events, draws := s.draws + 1 }) ∧
  (∀ s : State, s.bus = .stalls → exec .rdfull s = .fault .busStalled) ∧
  (∀ (i : Instr) (s u : State), exec i s = .next u → u.phase = 0#3 → i.sequenced = false ∧ s.phase = 0#3) ∧
  (∀ (raw raw' : Vector Byte 10) (P : Vector Byte 4), raw[7] = raw'[7] → raw[8] = raw'[8] → raw[9] = raw'[9] →
    mergeFrame raw P = mergeFrame raw' P)

/-- WRCFG of `42_sequencer_and_bus.md` section 2, with the free values of decision D9 and log entries 9 and 10: an
answered write changes the device and, in the block, only the phase: the device takes `wbuf` when all
four bytes were moved, and otherwise its registers are free values; a call that does not return gives no step; only
MERGE leads to phase 2. -/
def Obligations.WrcfgStoresTheConfigFrame : Prop :=
  decode (.p 2#3) = .ok .wrcfg ∧
  (∀ (s : State) (count : Nat), s.bus = .answers count → ∃ u, exec .wrcfg s = .next u ∧
    (∀ i : Fin 4, u.dw[i] = if 4 ≤ count then s.wbuf[i] else Config.unknownWrite s.draws i) ∧
    u.phase = 3#3 ∧ u.events = .memWrite s.par.devAddr s.wbuf :: s.events ∧
    u = { s with dw := u.dw, phase := 3#3, events := u.events, draws := s.draws + 1 }) ∧
  (∀ s : State, s.bus = .stalls → exec .wrcfg s = .fault .busStalled) ∧
  (∀ (i : Instr) (s u : State), exec i s = .next u → u.phase = 2#3 →
    i = .merge ∨ (i.sequenced = false ∧ s.phase = 2#3))

/-- WAIT of `42_sequencer_and_bus.md` section 3 (that it always completes is the spec's decision D21): WAIT always
completes and changes the phase only, and it stands between WRCFG and the first sample read as well as between two
cycles. -/
def Obligations.WaitChangesThePhaseOnly : Prop :=
  decode (.p 3#3) = .ok .wait ∧
  (∀ s : State, exec .wait s = .next { s with phase := 4#3 }) ∧
  (∀ s u : State, exec .wrcfg s = .next u → decode (.p u.phase) = .ok .wait) ∧
  (∀ s u : State, exec .emit s = .next u → decode (.p u.phase) = .ok .wait)

/-- RDSMP of `42_sequencer_and_bus.md` section 2, with the free values of decision D8 and log entries 6, 8 and 10: an
answered read of seven registers fills positions 0 to 6, a missing byte being a free value, and keeps
positions 7 to 9; `valid` is not touched; a call that does not return gives no step; only WAIT leads to phase 4. -/
def Obligations.RdsmpLoadsSevenRegisters : Prop :=
  decode (.p 4#3) = .ok .rdsmp ∧
  (∀ (s : State) (count : Nat), s.bus = .answers count → ∃ u, exec .rdsmp s = .next u ∧
    (∀ i : Fin 10, u.rbuf[i] =
      if i.val < 7 then (if i.val < count then s.dr[i] else Config.any8 s.draws i) else s.rbuf[i]) ∧
    u.phase = 5#3 ∧ u.valid = s.valid ∧
    u.events = .memRead s.par.devAddr 7 (sampleFrame u.rbuf).toList :: s.events ∧
    u = { s with rbuf := u.rbuf, phase := 5#3, events := u.events, draws := s.draws + 1 }) ∧
  (∀ s : State, s.bus = .stalls → exec .rdsmp s = .fault .busStalled) ∧
  (∀ (i : Instr) (s u : State), exec i s = .next u → u.phase = 4#3 →
    i = .wait ∨ (i.sequenced = false ∧ s.phase = 4#3))

/-- EMIT of `42_sequencer_and_bus.md` section 3 (the abstract marker is the spec's decision D23): exactly one Output,
the signed Sample while `valid` is 1 and the error marker alone otherwise; `valid` keeps its value; it always
completes. -/
def Obligations.EmitHandsOverTheSample : Prop :=
  decode (.p 6#3) = .ok .emit ∧ ∀ s : State,
    (s.valid = true → exec .emit s = .next { s with
      chan := s.chan.receive (.sample (s12 s.x) (s12 s.y) (s12 s.z) (s12 s.t))
      events := .output (.sample (s12 s.x) (s12 s.y) (s12 s.z) (s12 s.t)) :: s.events
      phase := 3#3 }) ∧
    (s.valid = false → exec .emit s = .next { s with
      chan := s.chan.receive .errorMarker
      events := .output .errorMarker :: s.events
      phase := 3#3 })

/-- The output channel of `42_sequencer_and_bus.md` section 3 (that a marker does not count is the spec's decision D17,
log entry 16): a channel that starts empty prints a header before exactly the samples of index 0, 15, 30, …, counts the
samples, and does not count an error marker. -/
def Obligations.HeaderEveryFifteenSamples : Prop :=
  (∀ vs : List (Int × Int × Int × Int),
    let c := vs.foldl (fun c v => Channel.receive c (.sample v.1 v.2.1 v.2.2.1 v.2.2.2)) { count := 0, rows := [] }
    c.count = vs.length ∧
    c.rows.reverse = vs.zipIdx.flatMap (fun p =>
      (if p.2 % 15 = 0 then [Row.header] else []) ++ [.sample p.1.1 p.1.2.1 p.1.2.2.1 p.1.2.2.2])) ∧
  (∀ c : Channel, c.receive .errorMarker = { count := c.count, rows := .errorMarker :: c.rows }) ∧
  State.reset.chan = { count := 0, rows := [] }

/-- Blocking, `42_sequencer_and_bus.md` section 2 (the spec's decision D15, log entry 10): an operation has no step
exactly when it is a bus operation and the transport does not return; every other operation completes, in every state.
A step with reset released and no select code issued, at phase 0, 2 or 4 with a stalled bus, faults; that a select code
can be issued there instead is the model's choice, log entry 12. With reset applied a step completes and gives phase 0
(log entry 15). -/
def Obligations.OnlyAStalledBusStops : Prop :=
  (∀ (i : Instr) (s : State), i = .rdfull ∨ i = .wrcfg ∨ i = .rdsmp →
    (s.bus = .stalls → exec i s = .fault .busStalled) ∧
    (∀ count, s.bus = .answers count → ∃ u, exec i s = .next u)) ∧
  (∀ (i : Instr) (s : State), i ≠ .rdfull → i ≠ .wrcfg → i ≠ .rdsmp → ∃ u, exec i s = .next u) ∧
  (∀ s : State, s.resetIn = false → s.sel = none → s.phase = 0#3 ∨ s.phase = 2#3 ∨ s.phase = 4#3 →
    s.bus = .stalls → step s = .fault .busStalled) ∧
  (∀ s : State, s.resetIn = true → ∃ u, step s = .next u ∧ u.phase = 0#3)

/-- Rule R108 of `42_sequencer_and_bus.md`: the successor is the table's and depends on no data: on no byte, not on
`valid`, not on whether a call came back short. The last clause is about a step with no select code issued (log entry
12); that phase 7 has no step is the spec's decision D12, log entry 14. -/
def Obligations.SuccessorNeverDependsOnData : Prop :=
  (∀ (i : Instr) (s u : State), exec i s = .next u → u.phase = i.nextPhase.getD s.phase) ∧
  (∀ (p : BitVec 3) (i : Instr), decode (.p p) = .ok i → i.nextPhase = some (if p = 6#3 then 3#3 else p + 1#3)) ∧
  (∀ s u : State, s.resetIn = false → s.sel = none → step s = .next u →
    u.phase = (if s.phase = 6#3 then 3#3 else s.phase + 1#3) ∧ s.phase ≠ 7#3 ∧ u.phase ≠ 7#3)

/-- `60_exceptions.md` section 1 and program P3 (the spec's decision D8, log entry 8): a short read is not detected.
Of a six-byte answer the missing low nibble of T is a free value while X, Y, Z and `valid` come from the device; an
eight-byte answer to the full read puts free values into ConfigFrame bytes 2 and 3. -/
def Obligations.ShortReadGoesUnseen : Prop :=
  (∀ s : State, s.bus = .answers 6 → ∃ u, runOps [.rdsmp, .decode] s = .next u ∧
    u.x = s.dr[0] ++ s.dr[4].extractLsb' 4 4 ∧ u.y = s.dr[1] ++ s.dr[4].extractLsb' 0 4 ∧
    u.z = s.dr[2] ++ s.dr[5].extractLsb' 0 4 ∧
    u.t = s.dr[3].extractLsb' 4 4 ++ 0b0000#4 ++ (Config.any8 s.draws 6).extractLsb' 0 4 ∧
    u.valid = decide (s.dr[3] &&& 0x03#8 = 0x00#8) ∧ u.phase = 6#3) ∧
  (∀ s : State, s.bus = .answers 8 → ∃ u, runOps [.rdfull, .merge] s = .next u ∧
    u.wbuf[1] = (s.dr[7] &&& 0x78#8) ||| s.par.preset[1] ∧
    u.wbuf[2] = Config.any8 s.draws 8 ||| s.par.preset[2] ∧
    u.wbuf[3] = (Config.any8 s.draws 9 &&& 0x0F#8) ||| s.par.preset[3] ∧ u.phase = 2#3)

/-- The cycle of `42_sequencer_and_bus.md` sections 2 to 4, with reset released and no select code issued (log entry 12).
WAIT leads to phase 4 and notes nothing. From phase 4, if the read is answered in full, three steps present the Sample
of the registers the device held at the read, or the error marker when they are torn, whatever the device and the
transport do at and after the read (log entries 5 and 7). That the frame is what `dr` holds is log entry 6. The last
clause is the same cycle without the surroundings. -/
def Obligations.FullReadPresentsTheDevice : Prop :=
  (∀ s : State, s.resetIn = false → s.sel = none → s.phase = 3#3 → ∃ u, step s = .next u ∧
    u.phase = 4#3 ∧ u.resetIn = false ∧ u.sel = none ∧ u.events = s.events ∧ u.dw = s.dw ∧ u.wbuf = s.wbuf) ∧
  (∀ (s : State) (count : Nat), s.resetIn = false → s.sel = none → s.phase = 4#3 → s.bus = .answers count →
    7 ≤ count → ∃ u₁ u₂ u₃, step s = .next u₁ ∧ step u₁ = .next u₂ ∧ step u₂ = .next u₃ ∧
      u₃.events = .output (outputOf (decodeFrame (sampleFrame s.dr))) ::
        .memRead s.par.devAddr 7 (sampleFrame s.dr).toList :: s.events ∧
      u₃.phase = 3#3 ∧ u₃.dw = s.dw ∧ u₃.wbuf = s.wbuf) ∧
  (∀ (s : State) (count : Nat), s.bus = .answers count → 7 ≤ count →
    ∃ u, runOps [.wait, .rdsmp, .decode, .emit] s = .next u ∧
      u.events = .output (outputOf (decodeFrame (sampleFrame s.dr))) ::
        .memRead s.par.devAddr 7 (sampleFrame s.dr).toList :: s.events ∧
      u.phase = 3#3 ∧ u.dw = s.dw ∧ u.wbuf = s.wbuf)

/-- CONFIGURE, program P1: the start-up merge over three steps, with reset released and no select code issued (log entry
12). If the full read is answered in full and, whatever the transport did in between, the write is taken in full, the
device ends with the frame merged from the registers it held at the read (log entry 6), whatever the device does after
the read (log entry 5); under a well-formed preset its calibration bits are the device's own and its mode bits are the
preset's (the guarantee of `40_configurator.md` section 4, which the spec marks as derived). -/
def Obligations.ConfigurePreservesCalibration : Prop :=
  ∀ (s : State) (count count' : Nat), s.resetIn = false → s.sel = none → s.phase = 0#3 → s.bus = .answers count →
    10 ≤ count → 4 ≤ count' →
    ∃ u₁ u₂ u₃, step s = .next u₁ ∧ step u₁ = .next u₂ ∧ step { u₂ with bus := .answers count' } = .next u₃ ∧
      u₃.dw = mergeFrame s.dr s.par.preset ∧ u₃.phase = 3#3 ∧
      u₃.events = .memWrite s.par.devAddr (mergeFrame s.dr s.par.preset) ::
        .memRead s.par.devAddr 10 s.dr.toList :: s.events ∧
      (presetWF s.par.preset = true →
        u₃.dw[0] = 0x00#8 ∧ u₃.dw[1] &&& 0x78#8 = s.dr[7] &&& 0x78#8 ∧ u₃.dw[2] = s.dr[8] ∧
        u₃.dw[3] &&& 0x0F#8 = s.dr[9] &&& 0x0F#8 ∧
        u₃.dw[1] &&& 0x87#8 = s.par.preset[1] ∧ u₃.dw[3] &&& 0xF0#8 = s.par.preset[3])

/-- `70_reset_and_hazards.md` section 3 and `10_state.md` section 5: later reads depend on the configuration the device
took. After every step, what the device shows is a free value of the configuration it then holds (log entry 5). After
the write of a step at phase 2, one WAIT follows, and a full read after it returns such values of what the device took,
all four registers of which are free values when the write was not taken in full (log entry 9). Reset is released and no
select code is issued (log entry 12). -/
def Obligations.LaterReadsDependOnTheConfiguration : Prop :=
  (∀ s u : State, step s = .next u → ∃ n, u.draws = n + 1 ∧ ∀ i : Fin 10, u.dr[i] = Config.liveByte u.dw n i) ∧
  (∀ (s : State) (count count' : Nat), s.resetIn = false → s.sel = none → s.phase = 2#3 → s.bus = .answers count →
    7 ≤ count' →
    ∃ u₁ u₂ u₃, step s = .next u₁ ∧ step u₁ = .next u₂ ∧ step { u₂ with bus := .answers count' } = .next u₃ ∧
      u₁.phase = 3#3 ∧ u₂.phase = 4#3 ∧ u₃.phase = 5#3 ∧
      (∀ i : Fin 4, u₁.dw[i] = if 4 ≤ count then s.wbuf[i] else Config.unknownWrite s.draws i) ∧
      u₂.dw = u₁.dw ∧ u₃.dw = u₁.dw ∧
      ∀ i : Fin 10, i.val < 7 → u₃.rbuf[i] = Config.liveByte u₁.dw (s.draws + 2) i)

/-- ConfigurationWriteFailure of `60_exceptions.md` section 1: the block after a configuration write is the same
whether or not the device took it; two answers differ in the device's registers only, which after a failed write are
free values (the spec's decision D9, log entry 9); no operation but MERGE leads to another write. -/
def Obligations.WriteFailureLeavesTheBlock : Prop :=
  (∀ (s : State) (k k' : Nat), ∃ u u', exec .wrcfg { s with bus := .answers k } = .next u ∧
    exec .wrcfg { s with bus := .answers k' } = .next u' ∧
    u' = { u with dw := u'.dw, bus := .answers k' } ∧ u.phase = 3#3 ∧
    (k < 4 → ∀ i : Fin 4, u.dw[i] = Config.unknownWrite s.draws i)) ∧
  (∀ (i : Instr) (s u : State), exec i s = .next u → u.phase = 2#3 →
    i = .merge ∨ (i.sequenced = false ∧ s.phase = 2#3))

/-! ## The whole machine -/

/-- Rule R21 of `10_state.md`: an operation changes no element outside its row, only EMIT touches the output channel, and
what it writes and notes depends on no element outside its row, given the same answer of the transport (log entry 7) and
the same free draw (log entry 11). That bytes not delivered (log entry 8) and DW after a write not taken in full (log
entry 9, which rule R35 of `20_memory.md` leaves unknown) depend on the draw alone, and so not on what DW held, is the
model's choice. -/
def Obligations.OperationsKeepToTheirRow : Prop :=
  (∀ (i : Instr) (s u : State), exec i s = .next u →
    (∀ e : Elem, i.writes e = false → u.elem e = s.elem e) ∧ (i ≠ .emit → u.chan = s.chan)) ∧
  (∀ (i : Instr) (s s' u u' : State), exec i s = .next u → exec i s' = .next u' →
    s.bus = s'.bus → s.draws = s'.draws → (∀ e : Elem, i.reads e = true → s.elem e = s'.elem e) →
    (∀ e : Elem, i.writes e = true → u.elem e = u'.elem e) ∧
    ∃ new, u.events = new ++ s.events ∧ u'.events = new ++ s'.events) ∧
  (∀ i : Instr, i.reads (.preset 0) = false)

/-- Rules R16, R17, R18 and R21 of `10_state.md`: no operation touches the parameters or the device's readable
registers, and only WRCFG writes its writable registers. Rule R57 of `30_encoding.md`: none touches the issued select
code, the model's field of log entry 12. Rule R109 of `42_sequencer_and_bus.md`: only the bus operations and EMIT are
events of the run (log entry 17). None touches the transport's reply (log entry 7) or the reset input (log entry 15),
and only the bus operations use up a draw of the model's own counter (log entry 11). -/
def Obligations.OperationsLeaveTheSurroundings : Prop :=
  ∀ (i : Instr) (s u : State), exec i s = .next u →
    u.sel = s.sel ∧ u.par = s.par ∧ u.dr = s.dr ∧ u.bus = s.bus ∧ u.resetIn = s.resetIn ∧
    (i ≠ .wrcfg → u.dw = s.dw) ∧
    (i ≠ .rdfull → i ≠ .wrcfg → i ≠ .rdsmp → u.draws = s.draws) ∧
    (i ≠ .rdfull → i ≠ .wrcfg → i ≠ .rdsmp → i ≠ .emit → u.events = s.events)

/-- R16: no operation and no step changes the parameters, so an admitted configuration stays one. -/
def Obligations.ParametersNeverChange : Prop :=
  (∀ (i : Instr) (s u : State), exec i s = .next u → u.par = s.par) ∧
  (∀ s u : State, step s = .next u → u.par = s.par ∧ (s.par.admitted = true → u.par.admitted = true))

/-- `42_sequencer_and_bus.md` section 4, with field operations issued at any time (log entry 12): every step keeps the
invariant of a run: one ten-register read, one write of the frame merged from the bytes it returned, then per cycle one
seven-register read and one Output of the frame it returned, decoded. From a read to the write or Output that uses it
the receive buffer holds what that read returned; `wbuf` holds the merged frame when WRCFG is next and the sample
registers the decoded frame when EMIT is next. -/
def Obligations.StepKeepsTheRun : Prop :=
  ∀ s u : State, RunInv s → step s = .next u → RunInv u

/-- The invariant of a run holds after reset. -/
def Obligations.ResetBeginsTheRun : Prop := RunInv State.reset

/-- `42_sequencer_and_bus.md` section 3 (decision D17, log entry 16): every step keeps the output channel's rows laid
out: a header before exactly every fifteenth sample, whatever
error markers stand between. -/
def Obligations.StepKeepsTheChannelLaidOut : Prop :=
  ∀ s u : State, ChannelOK s → step s = .next u → ChannelOK u

/-- The output channel's rows are laid out after reset. -/
def Obligations.ResetChannelLaidOut : Prop := ChannelOK State.reset

/-- In a run, every Sample presented has X, Y, Z in [-2048, 2047] and T among its 256 values. -/
def Obligations.PresentedValuesAreRepresentable : Prop :=
  ∀ s : State, RunInv s → ∀ x y z t : Int, .output (.sample x y z t) ∈ s.events →
    (-2048 ≤ x ∧ x ≤ 2047) ∧ (-2048 ≤ y ∧ y ≤ 2047) ∧ (-2048 ≤ z ∧ z ≤ 2047) ∧ tValue t

/-- In a run, every write goes to the device and starts with a zero byte, at most one is made, and under a well-formed
preset its MODE bits are the preset's; every read is of ten or of seven registers of the device and returned as many
bytes. -/
def Obligations.WritesKeepTheWireContract : Prop :=
  ∀ s : State, RunInv s →
    (∀ a v, .memWrite a v ∈ s.events → a = s.par.devAddr ∧ v[0] = 0x00#8 ∧
      (presetWF s.par.preset = true → v[1] &&& 0x87#8 = s.par.preset[1] ∧ v[3] &&& 0xF0#8 = s.par.preset[3])) ∧
    (∀ a n b, .memRead a n b ∈ s.events → a = s.par.devAddr ∧ (n = 10 ∨ n = 7) ∧ b.length = n) ∧
    (s.events.filter fun e => match e with | .memWrite _ _ => true | _ => false).length ≤ 1
end

