-- ==== Sys2Proof/Laws/Config.lean ====
section
/-! SUPPORT. The parameters of this machine are admitted (`00_scope.md` R5, `40_configurator.md` R71). -/

namespace Sys2Proof

/-- The machine's preset is well formed, whatever its open MODE bits are. -/
theorem presetWF_config : presetWF Config.preset = true := by
  have h1 : ∀ b : Byte, b &&& 0x87#8 &&& 0x78#8 = 0#8 := fun b => by
    rw [BitVec.and_assoc]; simp
  have h3 : ∀ b : Byte, b &&& 0xF0#8 &&& 0x0F#8 = 0#8 := fun b => by
    rw [BitVec.and_assoc]; simp
  simp [presetWF, Config.preset, h1, h3]

/-- The machine's preset name is not FastMode. -/
theorem presetName_config : Config.presetName ≠ .fastMode := by
  unfold Config.presetName
  split
  · simp
  · split <;> simp

/-- The machine's parameters are admitted. -/
theorem admitted_config : Config.params.admitted = true := by
  simp [Params.admitted, Config.params, presetWF_config, presetName_config]

end Sys2Proof
end

