-- ==== Sys2Proof/Laws/Operands.lean ====
section
/-! SUPPORT. The small facts about the datapath's functions. -/

namespace Sys2Proof.Machine

/-- The high nibble as a number. -/
theorem highNibble_toNat (b : Byte) : (highNibble b).toNat = b.toNat / 16 := by
  have h := b.isLt
  have e : (b >>> 4) &&& 0x0F#8 = b >>> 4 := by
    apply BitVec.eq_of_toNat_eq
    have : b.toNat >>> 4 < 16 := by rw [Nat.shiftRight_eq_div_pow]; omega
    simpa using Nat.and_two_pow_sub_one_of_lt_two_pow (n := 4) this
  unfold highNibble
  rw [e]
  simp only [BitVec.toNat_setWidth, BitVec.toNat_ushiftRight, Nat.shiftRight_eq_div_pow]
  omega

/-- The low nibble as a number. -/
theorem lowNibble_toNat (b : Byte) : (lowNibble b).toNat = b.toNat % 16 := by
  have e : b.toNat &&& 15 = b.toNat % 16 := Nat.and_two_pow_sub_one_eq_mod b.toNat 4
  unfold lowNibble
  rw [BitVec.toNat_setWidth, BitVec.toNat_and, show (0x0F#8).toNat = 15 from rfl, e]
  omega

/-- Assembly is the concatenation of the high byte and the nibble. -/
theorem asm12_eq_append (H : Byte) (N : Nibble) : asm12 H N = H ++ N := by
  apply BitVec.eq_of_getLsbD_eq
  intro i hi
  simp only [asm12, BitVec.getLsbD_or, BitVec.getLsbD_shiftLeft, BitVec.getLsbD_setWidth, BitVec.getLsbD_append]
  by_cases h : i < 4
  · simp [h, hi]
  · have h' : N.getLsbD i = false := BitVec.getLsbD_of_ge N i (by omega)
    simp [h, hi, h', show i - 4 < 12 by omega]

/-- The signed reading is the two's-complement value of the pattern. -/
theorem s12_eq_toInt (r : Word12) : s12 r = r.toInt := by
  have h := r.isLt
  unfold s12
  rw [BitVec.toInt_eq_toNat_cond]
  split <;> split <;> omega

/-- The validity of a frame is the test of R88. -/
theorem frameValid_iff (b : Byte) : frameValid b = true ↔ b &&& 0x03#8 = 0x00#8 := by
  simp [frameValid, statusBits]

end Sys2Proof.Machine
end

