-- ==== Sys2Proof/Laws/State.lean ====
section
/-! SUPPORT. One lemma per field and per state update of `Machine/Ops.lean`, each true by `rfl`, so that no proof unfolds a
record update. -/

namespace Sys2Proof.Machine

variable (s : State)

@[simp] theorem State.setRbuf_rbuf (v : Vector Byte 10) : (s.setRbuf v).rbuf = v := rfl
@[simp] theorem State.setRbuf_wbuf (v : Vector Byte 10) : (s.setRbuf v).wbuf = s.wbuf := rfl
@[simp] theorem State.setRbuf_x (v : Vector Byte 10) : (s.setRbuf v).x = s.x := rfl
@[simp] theorem State.setRbuf_y (v : Vector Byte 10) : (s.setRbuf v).y = s.y := rfl
@[simp] theorem State.setRbuf_z (v : Vector Byte 10) : (s.setRbuf v).z = s.z := rfl
@[simp] theorem State.setRbuf_t (v : Vector Byte 10) : (s.setRbuf v).t = s.t := rfl
@[simp] theorem State.setRbuf_valid (v : Vector Byte 10) : (s.setRbuf v).valid = s.valid := rfl
@[simp] theorem State.setRbuf_phase (v : Vector Byte 10) : (s.setRbuf v).phase = s.phase := rfl
@[simp] theorem State.setRbuf_sel (v : Vector Byte 10) : (s.setRbuf v).sel = s.sel := rfl
@[simp] theorem State.setRbuf_par (v : Vector Byte 10) : (s.setRbuf v).par = s.par := rfl
@[simp] theorem State.setRbuf_dr (v : Vector Byte 10) : (s.setRbuf v).dr = s.dr := rfl
@[simp] theorem State.setRbuf_dw (v : Vector Byte 10) : (s.setRbuf v).dw = s.dw := rfl
@[simp] theorem State.setRbuf_bus (v : Vector Byte 10) : (s.setRbuf v).bus = s.bus := rfl
@[simp] theorem State.setRbuf_resetIn (v : Vector Byte 10) : (s.setRbuf v).resetIn = s.resetIn := rfl
@[simp] theorem State.setRbuf_chan (v : Vector Byte 10) : (s.setRbuf v).chan = s.chan := rfl
@[simp] theorem State.setRbuf_events (v : Vector Byte 10) : (s.setRbuf v).events = s.events := rfl
@[simp] theorem State.setRbuf_draws (v : Vector Byte 10) : (s.setRbuf v).draws = s.draws := rfl

@[simp] theorem State.setWbuf_rbuf (v : Vector Byte 4) : (s.setWbuf v).rbuf = s.rbuf := rfl
@[simp] theorem State.setWbuf_wbuf (v : Vector Byte 4) : (s.setWbuf v).wbuf = v := rfl
@[simp] theorem State.setWbuf_x (v : Vector Byte 4) : (s.setWbuf v).x = s.x := rfl
@[simp] theorem State.setWbuf_y (v : Vector Byte 4) : (s.setWbuf v).y = s.y := rfl
@[simp] theorem State.setWbuf_z (v : Vector Byte 4) : (s.setWbuf v).z = s.z := rfl
@[simp] theorem State.setWbuf_t (v : Vector Byte 4) : (s.setWbuf v).t = s.t := rfl
@[simp] theorem State.setWbuf_valid (v : Vector Byte 4) : (s.setWbuf v).valid = s.valid := rfl
@[simp] theorem State.setWbuf_phase (v : Vector Byte 4) : (s.setWbuf v).phase = s.phase := rfl
@[simp] theorem State.setWbuf_sel (v : Vector Byte 4) : (s.setWbuf v).sel = s.sel := rfl
@[simp] theorem State.setWbuf_par (v : Vector Byte 4) : (s.setWbuf v).par = s.par := rfl
@[simp] theorem State.setWbuf_dr (v : Vector Byte 4) : (s.setWbuf v).dr = s.dr := rfl
@[simp] theorem State.setWbuf_dw (v : Vector Byte 4) : (s.setWbuf v).dw = s.dw := rfl
@[simp] theorem State.setWbuf_bus (v : Vector Byte 4) : (s.setWbuf v).bus = s.bus := rfl
@[simp] theorem State.setWbuf_resetIn (v : Vector Byte 4) : (s.setWbuf v).resetIn = s.resetIn := rfl
@[simp] theorem State.setWbuf_chan (v : Vector Byte 4) : (s.setWbuf v).chan = s.chan := rfl
@[simp] theorem State.setWbuf_events (v : Vector Byte 4) : (s.setWbuf v).events = s.events := rfl
@[simp] theorem State.setWbuf_draws (v : Vector Byte 4) : (s.setWbuf v).draws = s.draws := rfl

@[simp] theorem State.setX_rbuf (v : Word12) : (s.setX v).rbuf = s.rbuf := rfl
@[simp] theorem State.setX_wbuf (v : Word12) : (s.setX v).wbuf = s.wbuf := rfl
@[simp] theorem State.setX_x (v : Word12) : (s.setX v).x = v := rfl
@[simp] theorem State.setX_y (v : Word12) : (s.setX v).y = s.y := rfl
@[simp] theorem State.setX_z (v : Word12) : (s.setX v).z = s.z := rfl
@[simp] theorem State.setX_t (v : Word12) : (s.setX v).t = s.t := rfl
@[simp] theorem State.setX_valid (v : Word12) : (s.setX v).valid = s.valid := rfl
@[simp] theorem State.setX_phase (v : Word12) : (s.setX v).phase = s.phase := rfl
@[simp] theorem State.setX_sel (v : Word12) : (s.setX v).sel = s.sel := rfl
@[simp] theorem State.setX_par (v : Word12) : (s.setX v).par = s.par := rfl
@[simp] theorem State.setX_dr (v : Word12) : (s.setX v).dr = s.dr := rfl
@[simp] theorem State.setX_dw (v : Word12) : (s.setX v).dw = s.dw := rfl
@[simp] theorem State.setX_bus (v : Word12) : (s.setX v).bus = s.bus := rfl
@[simp] theorem State.setX_resetIn (v : Word12) : (s.setX v).resetIn = s.resetIn := rfl
@[simp] theorem State.setX_chan (v : Word12) : (s.setX v).chan = s.chan := rfl
@[simp] theorem State.setX_events (v : Word12) : (s.setX v).events = s.events := rfl
@[simp] theorem State.setX_draws (v : Word12) : (s.setX v).draws = s.draws := rfl

@[simp] theorem State.setY_rbuf (v : Word12) : (s.setY v).rbuf = s.rbuf := rfl
@[simp] theorem State.setY_wbuf (v : Word12) : (s.setY v).wbuf = s.wbuf := rfl
@[simp] theorem State.setY_x (v : Word12) : (s.setY v).x = s.x := rfl
@[simp] theorem State.setY_y (v : Word12) : (s.setY v).y = v := rfl
@[simp] theorem State.setY_z (v : Word12) : (s.setY v).z = s.z := rfl
@[simp] theorem State.setY_t (v : Word12) : (s.setY v).t = s.t := rfl
@[simp] theorem State.setY_valid (v : Word12) : (s.setY v).valid = s.valid := rfl
@[simp] theorem State.setY_phase (v : Word12) : (s.setY v).phase = s.phase := rfl
@[simp] theorem State.setY_sel (v : Word12) : (s.setY v).sel = s.sel := rfl
@[simp] theorem State.setY_par (v : Word12) : (s.setY v).par = s.par := rfl
@[simp] theorem State.setY_dr (v : Word12) : (s.setY v).dr = s.dr := rfl
@[simp] theorem State.setY_dw (v : Word12) : (s.setY v).dw = s.dw := rfl
@[simp] theorem State.setY_bus (v : Word12) : (s.setY v).bus = s.bus := rfl
@[simp] theorem State.setY_resetIn (v : Word12) : (s.setY v).resetIn = s.resetIn := rfl
@[simp] theorem State.setY_chan (v : Word12) : (s.setY v).chan = s.chan := rfl
@[simp] theorem State.setY_events (v : Word12) : (s.setY v).events = s.events := rfl
@[simp] theorem State.setY_draws (v : Word12) : (s.setY v).draws = s.draws := rfl

@[simp] theorem State.setZ_rbuf (v : Word12) : (s.setZ v).rbuf = s.rbuf := rfl
@[simp] theorem State.setZ_wbuf (v : Word12) : (s.setZ v).wbuf = s.wbuf := rfl
@[simp] theorem State.setZ_x (v : Word12) : (s.setZ v).x = s.x := rfl
@[simp] theorem State.setZ_y (v : Word12) : (s.setZ v).y = s.y := rfl
@[simp] theorem State.setZ_z (v : Word12) : (s.setZ v).z = v := rfl
@[simp] theorem State.setZ_t (v : Word12) : (s.setZ v).t = s.t := rfl
@[simp] theorem State.setZ_valid (v : Word12) : (s.setZ v).valid = s.valid := rfl
@[simp] theorem State.setZ_phase (v : Word12) : (s.setZ v).phase = s.phase := rfl
@[simp] theorem State.setZ_sel (v : Word12) : (s.setZ v).sel = s.sel := rfl
@[simp] theorem State.setZ_par (v : Word12) : (s.setZ v).par = s.par := rfl
@[simp] theorem State.setZ_dr (v : Word12) : (s.setZ v).dr = s.dr := rfl
@[simp] theorem State.setZ_dw (v : Word12) : (s.setZ v).dw = s.dw := rfl
@[simp] theorem State.setZ_bus (v : Word12) : (s.setZ v).bus = s.bus := rfl
@[simp] theorem State.setZ_resetIn (v : Word12) : (s.setZ v).resetIn = s.resetIn := rfl
@[simp] theorem State.setZ_chan (v : Word12) : (s.setZ v).chan = s.chan := rfl
@[simp] theorem State.setZ_events (v : Word12) : (s.setZ v).events = s.events := rfl
@[simp] theorem State.setZ_draws (v : Word12) : (s.setZ v).draws = s.draws := rfl

@[simp] theorem State.setT_rbuf (v : Word12) : (s.setT v).rbuf = s.rbuf := rfl
@[simp] theorem State.setT_wbuf (v : Word12) : (s.setT v).wbuf = s.wbuf := rfl
@[simp] theorem State.setT_x (v : Word12) : (s.setT v).x = s.x := rfl
@[simp] theorem State.setT_y (v : Word12) : (s.setT v).y = s.y := rfl
@[simp] theorem State.setT_z (v : Word12) : (s.setT v).z = s.z := rfl
@[simp] theorem State.setT_t (v : Word12) : (s.setT v).t = v := rfl
@[simp] theorem State.setT_valid (v : Word12) : (s.setT v).valid = s.valid := rfl
@[simp] theorem State.setT_phase (v : Word12) : (s.setT v).phase = s.phase := rfl
@[simp] theorem State.setT_sel (v : Word12) : (s.setT v).sel = s.sel := rfl
@[simp] theorem State.setT_par (v : Word12) : (s.setT v).par = s.par := rfl
@[simp] theorem State.setT_dr (v : Word12) : (s.setT v).dr = s.dr := rfl
@[simp] theorem State.setT_dw (v : Word12) : (s.setT v).dw = s.dw := rfl
@[simp] theorem State.setT_bus (v : Word12) : (s.setT v).bus = s.bus := rfl
@[simp] theorem State.setT_resetIn (v : Word12) : (s.setT v).resetIn = s.resetIn := rfl
@[simp] theorem State.setT_chan (v : Word12) : (s.setT v).chan = s.chan := rfl
@[simp] theorem State.setT_events (v : Word12) : (s.setT v).events = s.events := rfl
@[simp] theorem State.setT_draws (v : Word12) : (s.setT v).draws = s.draws := rfl

@[simp] theorem State.setValid_rbuf (v : Bool) : (s.setValid v).rbuf = s.rbuf := rfl
@[simp] theorem State.setValid_wbuf (v : Bool) : (s.setValid v).wbuf = s.wbuf := rfl
@[simp] theorem State.setValid_x (v : Bool) : (s.setValid v).x = s.x := rfl
@[simp] theorem State.setValid_y (v : Bool) : (s.setValid v).y = s.y := rfl
@[simp] theorem State.setValid_z (v : Bool) : (s.setValid v).z = s.z := rfl
@[simp] theorem State.setValid_t (v : Bool) : (s.setValid v).t = s.t := rfl
@[simp] theorem State.setValid_valid (v : Bool) : (s.setValid v).valid = v := rfl
@[simp] theorem State.setValid_phase (v : Bool) : (s.setValid v).phase = s.phase := rfl
@[simp] theorem State.setValid_sel (v : Bool) : (s.setValid v).sel = s.sel := rfl
@[simp] theorem State.setValid_par (v : Bool) : (s.setValid v).par = s.par := rfl
@[simp] theorem State.setValid_dr (v : Bool) : (s.setValid v).dr = s.dr := rfl
@[simp] theorem State.setValid_dw (v : Bool) : (s.setValid v).dw = s.dw := rfl
@[simp] theorem State.setValid_bus (v : Bool) : (s.setValid v).bus = s.bus := rfl
@[simp] theorem State.setValid_resetIn (v : Bool) : (s.setValid v).resetIn = s.resetIn := rfl
@[simp] theorem State.setValid_chan (v : Bool) : (s.setValid v).chan = s.chan := rfl
@[simp] theorem State.setValid_events (v : Bool) : (s.setValid v).events = s.events := rfl
@[simp] theorem State.setValid_draws (v : Bool) : (s.setValid v).draws = s.draws := rfl

@[simp] theorem State.raiseTornRead_rbuf : s.raiseTornRead.rbuf = s.rbuf := rfl
@[simp] theorem State.raiseTornRead_wbuf : s.raiseTornRead.wbuf = s.wbuf := rfl
@[simp] theorem State.raiseTornRead_x : s.raiseTornRead.x = s.x := rfl
@[simp] theorem State.raiseTornRead_y : s.raiseTornRead.y = s.y := rfl
@[simp] theorem State.raiseTornRead_z : s.raiseTornRead.z = s.z := rfl
@[simp] theorem State.raiseTornRead_t : s.raiseTornRead.t = s.t := rfl
@[simp] theorem State.raiseTornRead_valid : s.raiseTornRead.valid = false := rfl
@[simp] theorem State.raiseTornRead_phase : s.raiseTornRead.phase = s.phase := rfl
@[simp] theorem State.raiseTornRead_sel : s.raiseTornRead.sel = s.sel := rfl
@[simp] theorem State.raiseTornRead_par : s.raiseTornRead.par = s.par := rfl
@[simp] theorem State.raiseTornRead_dr : s.raiseTornRead.dr = s.dr := rfl
@[simp] theorem State.raiseTornRead_dw : s.raiseTornRead.dw = s.dw := rfl
@[simp] theorem State.raiseTornRead_bus : s.raiseTornRead.bus = s.bus := rfl
@[simp] theorem State.raiseTornRead_resetIn : s.raiseTornRead.resetIn = s.resetIn := rfl
@[simp] theorem State.raiseTornRead_chan : s.raiseTornRead.chan = s.chan := rfl
@[simp] theorem State.raiseTornRead_events : s.raiseTornRead.events = s.events := rfl
@[simp] theorem State.raiseTornRead_draws : s.raiseTornRead.draws = s.draws := rfl

@[simp] theorem State.goto_rbuf (p : BitVec 3) : (s.goto p).rbuf = s.rbuf := rfl
@[simp] theorem State.goto_wbuf (p : BitVec 3) : (s.goto p).wbuf = s.wbuf := rfl
@[simp] theorem State.goto_x (p : BitVec 3) : (s.goto p).x = s.x := rfl
@[simp] theorem State.goto_y (p : BitVec 3) : (s.goto p).y = s.y := rfl
@[simp] theorem State.goto_z (p : BitVec 3) : (s.goto p).z = s.z := rfl
@[simp] theorem State.goto_t (p : BitVec 3) : (s.goto p).t = s.t := rfl
@[simp] theorem State.goto_valid (p : BitVec 3) : (s.goto p).valid = s.valid := rfl
@[simp] theorem State.goto_phase (p : BitVec 3) : (s.goto p).phase = p := rfl
@[simp] theorem State.goto_sel (p : BitVec 3) : (s.goto p).sel = s.sel := rfl
@[simp] theorem State.goto_par (p : BitVec 3) : (s.goto p).par = s.par := rfl
@[simp] theorem State.goto_dr (p : BitVec 3) : (s.goto p).dr = s.dr := rfl
@[simp] theorem State.goto_dw (p : BitVec 3) : (s.goto p).dw = s.dw := rfl
@[simp] theorem State.goto_bus (p : BitVec 3) : (s.goto p).bus = s.bus := rfl
@[simp] theorem State.goto_resetIn (p : BitVec 3) : (s.goto p).resetIn = s.resetIn := rfl
@[simp] theorem State.goto_chan (p : BitVec 3) : (s.goto p).chan = s.chan := rfl
@[simp] theorem State.goto_events (p : BitVec 3) : (s.goto p).events = s.events := rfl
@[simp] theorem State.goto_draws (p : BitVec 3) : (s.goto p).draws = s.draws := rfl

@[simp] theorem State.setDw_rbuf (v : Vector Byte 4) : (s.setDw v).rbuf = s.rbuf := rfl
@[simp] theorem State.setDw_wbuf (v : Vector Byte 4) : (s.setDw v).wbuf = s.wbuf := rfl
@[simp] theorem State.setDw_x (v : Vector Byte 4) : (s.setDw v).x = s.x := rfl
@[simp] theorem State.setDw_y (v : Vector Byte 4) : (s.setDw v).y = s.y := rfl
@[simp] theorem State.setDw_z (v : Vector Byte 4) : (s.setDw v).z = s.z := rfl
@[simp] theorem State.setDw_t (v : Vector Byte 4) : (s.setDw v).t = s.t := rfl
@[simp] theorem State.setDw_valid (v : Vector Byte 4) : (s.setDw v).valid = s.valid := rfl
@[simp] theorem State.setDw_phase (v : Vector Byte 4) : (s.setDw v).phase = s.phase := rfl
@[simp] theorem State.setDw_sel (v : Vector Byte 4) : (s.setDw v).sel = s.sel := rfl
@[simp] theorem State.setDw_par (v : Vector Byte 4) : (s.setDw v).par = s.par := rfl
@[simp] theorem State.setDw_dr (v : Vector Byte 4) : (s.setDw v).dr = s.dr := rfl
@[simp] theorem State.setDw_dw (v : Vector Byte 4) : (s.setDw v).dw = v := rfl
@[simp] theorem State.setDw_bus (v : Vector Byte 4) : (s.setDw v).bus = s.bus := rfl
@[simp] theorem State.setDw_resetIn (v : Vector Byte 4) : (s.setDw v).resetIn = s.resetIn := rfl
@[simp] theorem State.setDw_chan (v : Vector Byte 4) : (s.setDw v).chan = s.chan := rfl
@[simp] theorem State.setDw_events (v : Vector Byte 4) : (s.setDw v).events = s.events := rfl
@[simp] theorem State.setDw_draws (v : Vector Byte 4) : (s.setDw v).draws = s.draws := rfl

@[simp] theorem State.record_rbuf (e : Event) : (s.record e).rbuf = s.rbuf := rfl
@[simp] theorem State.record_wbuf (e : Event) : (s.record e).wbuf = s.wbuf := rfl
@[simp] theorem State.record_x (e : Event) : (s.record e).x = s.x := rfl
@[simp] theorem State.record_y (e : Event) : (s.record e).y = s.y := rfl
@[simp] theorem State.record_z (e : Event) : (s.record e).z = s.z := rfl
@[simp] theorem State.record_t (e : Event) : (s.record e).t = s.t := rfl
@[simp] theorem State.record_valid (e : Event) : (s.record e).valid = s.valid := rfl
@[simp] theorem State.record_phase (e : Event) : (s.record e).phase = s.phase := rfl
@[simp] theorem State.record_sel (e : Event) : (s.record e).sel = s.sel := rfl
@[simp] theorem State.record_par (e : Event) : (s.record e).par = s.par := rfl
@[simp] theorem State.record_dr (e : Event) : (s.record e).dr = s.dr := rfl
@[simp] theorem State.record_dw (e : Event) : (s.record e).dw = s.dw := rfl
@[simp] theorem State.record_bus (e : Event) : (s.record e).bus = s.bus := rfl
@[simp] theorem State.record_resetIn (e : Event) : (s.record e).resetIn = s.resetIn := rfl
@[simp] theorem State.record_chan (e : Event) : (s.record e).chan = s.chan := rfl
@[simp] theorem State.record_events (e : Event) : (s.record e).events = e :: s.events := rfl
@[simp] theorem State.record_draws (e : Event) : (s.record e).draws = s.draws := rfl

@[simp] theorem State.noteFullRead_rbuf : s.noteFullRead.rbuf = s.rbuf := rfl
@[simp] theorem State.noteFullRead_wbuf : s.noteFullRead.wbuf = s.wbuf := rfl
@[simp] theorem State.noteFullRead_x : s.noteFullRead.x = s.x := rfl
@[simp] theorem State.noteFullRead_y : s.noteFullRead.y = s.y := rfl
@[simp] theorem State.noteFullRead_z : s.noteFullRead.z = s.z := rfl
@[simp] theorem State.noteFullRead_t : s.noteFullRead.t = s.t := rfl
@[simp] theorem State.noteFullRead_valid : s.noteFullRead.valid = s.valid := rfl
@[simp] theorem State.noteFullRead_phase : s.noteFullRead.phase = s.phase := rfl
@[simp] theorem State.noteFullRead_sel : s.noteFullRead.sel = s.sel := rfl
@[simp] theorem State.noteFullRead_par : s.noteFullRead.par = s.par := rfl
@[simp] theorem State.noteFullRead_dr : s.noteFullRead.dr = s.dr := rfl
@[simp] theorem State.noteFullRead_dw : s.noteFullRead.dw = s.dw := rfl
@[simp] theorem State.noteFullRead_bus : s.noteFullRead.bus = s.bus := rfl
@[simp] theorem State.noteFullRead_resetIn : s.noteFullRead.resetIn = s.resetIn := rfl
@[simp] theorem State.noteFullRead_chan : s.noteFullRead.chan = s.chan := rfl
@[simp] theorem State.noteFullRead_events : s.noteFullRead.events = .memRead s.par.devAddr 10 s.rbuf.toList :: s.events := rfl
@[simp] theorem State.noteFullRead_draws : s.noteFullRead.draws = s.draws := rfl

@[simp] theorem State.noteSampleRead_rbuf : s.noteSampleRead.rbuf = s.rbuf := rfl
@[simp] theorem State.noteSampleRead_wbuf : s.noteSampleRead.wbuf = s.wbuf := rfl
@[simp] theorem State.noteSampleRead_x : s.noteSampleRead.x = s.x := rfl
@[simp] theorem State.noteSampleRead_y : s.noteSampleRead.y = s.y := rfl
@[simp] theorem State.noteSampleRead_z : s.noteSampleRead.z = s.z := rfl
@[simp] theorem State.noteSampleRead_t : s.noteSampleRead.t = s.t := rfl
@[simp] theorem State.noteSampleRead_valid : s.noteSampleRead.valid = s.valid := rfl
@[simp] theorem State.noteSampleRead_phase : s.noteSampleRead.phase = s.phase := rfl
@[simp] theorem State.noteSampleRead_sel : s.noteSampleRead.sel = s.sel := rfl
@[simp] theorem State.noteSampleRead_par : s.noteSampleRead.par = s.par := rfl
@[simp] theorem State.noteSampleRead_dr : s.noteSampleRead.dr = s.dr := rfl
@[simp] theorem State.noteSampleRead_dw : s.noteSampleRead.dw = s.dw := rfl
@[simp] theorem State.noteSampleRead_bus : s.noteSampleRead.bus = s.bus := rfl
@[simp] theorem State.noteSampleRead_resetIn : s.noteSampleRead.resetIn = s.resetIn := rfl
@[simp] theorem State.noteSampleRead_chan : s.noteSampleRead.chan = s.chan := rfl
@[simp] theorem State.noteSampleRead_events : s.noteSampleRead.events = .memRead s.par.devAddr 7 (sampleFrame s.rbuf).toList :: s.events := rfl
@[simp] theorem State.noteSampleRead_draws : s.noteSampleRead.draws = s.draws := rfl

@[simp] theorem State.drawn_rbuf : s.drawn.rbuf = s.rbuf := rfl
@[simp] theorem State.drawn_wbuf : s.drawn.wbuf = s.wbuf := rfl
@[simp] theorem State.drawn_x : s.drawn.x = s.x := rfl
@[simp] theorem State.drawn_y : s.drawn.y = s.y := rfl
@[simp] theorem State.drawn_z : s.drawn.z = s.z := rfl
@[simp] theorem State.drawn_t : s.drawn.t = s.t := rfl
@[simp] theorem State.drawn_valid : s.drawn.valid = s.valid := rfl
@[simp] theorem State.drawn_phase : s.drawn.phase = s.phase := rfl
@[simp] theorem State.drawn_sel : s.drawn.sel = s.sel := rfl
@[simp] theorem State.drawn_par : s.drawn.par = s.par := rfl
@[simp] theorem State.drawn_dr : s.drawn.dr = s.dr := rfl
@[simp] theorem State.drawn_dw : s.drawn.dw = s.dw := rfl
@[simp] theorem State.drawn_bus : s.drawn.bus = s.bus := rfl
@[simp] theorem State.drawn_resetIn : s.drawn.resetIn = s.resetIn := rfl
@[simp] theorem State.drawn_chan : s.drawn.chan = s.chan := rfl
@[simp] theorem State.drawn_events : s.drawn.events = s.events := rfl
@[simp] theorem State.drawn_draws : s.drawn.draws = s.draws + 1 := rfl

@[simp] theorem State.deliver_rbuf (o : Output) : (s.deliver o).rbuf = s.rbuf := rfl
@[simp] theorem State.deliver_wbuf (o : Output) : (s.deliver o).wbuf = s.wbuf := rfl
@[simp] theorem State.deliver_x (o : Output) : (s.deliver o).x = s.x := rfl
@[simp] theorem State.deliver_y (o : Output) : (s.deliver o).y = s.y := rfl
@[simp] theorem State.deliver_z (o : Output) : (s.deliver o).z = s.z := rfl
@[simp] theorem State.deliver_t (o : Output) : (s.deliver o).t = s.t := rfl
@[simp] theorem State.deliver_valid (o : Output) : (s.deliver o).valid = s.valid := rfl
@[simp] theorem State.deliver_phase (o : Output) : (s.deliver o).phase = s.phase := rfl
@[simp] theorem State.deliver_sel (o : Output) : (s.deliver o).sel = s.sel := rfl
@[simp] theorem State.deliver_par (o : Output) : (s.deliver o).par = s.par := rfl
@[simp] theorem State.deliver_dr (o : Output) : (s.deliver o).dr = s.dr := rfl
@[simp] theorem State.deliver_dw (o : Output) : (s.deliver o).dw = s.dw := rfl
@[simp] theorem State.deliver_bus (o : Output) : (s.deliver o).bus = s.bus := rfl
@[simp] theorem State.deliver_resetIn (o : Output) : (s.deliver o).resetIn = s.resetIn := rfl
@[simp] theorem State.deliver_chan (o : Output) : (s.deliver o).chan = s.chan.receive o := rfl
@[simp] theorem State.deliver_events (o : Output) : (s.deliver o).events = .output o :: s.events := rfl
@[simp] theorem State.deliver_draws (o : Output) : (s.deliver o).draws = s.draws := rfl

@[simp] theorem State.advance_rbuf : s.advance.rbuf = s.rbuf := rfl
@[simp] theorem State.advance_wbuf : s.advance.wbuf = s.wbuf := rfl
@[simp] theorem State.advance_x : s.advance.x = s.x := rfl
@[simp] theorem State.advance_y : s.advance.y = s.y := rfl
@[simp] theorem State.advance_z : s.advance.z = s.z := rfl
@[simp] theorem State.advance_t : s.advance.t = s.t := rfl
@[simp] theorem State.advance_valid : s.advance.valid = s.valid := rfl
@[simp] theorem State.advance_phase : s.advance.phase = s.phase := rfl
@[simp] theorem State.advance_sel : s.advance.sel = none := rfl
@[simp] theorem State.advance_par : s.advance.par = s.par := rfl
@[simp] theorem State.advance_dw : s.advance.dw = s.dw := rfl
@[simp] theorem State.advance_bus : s.advance.bus = Config.transport s.draws := rfl
@[simp] theorem State.advance_resetIn : s.advance.resetIn = s.resetIn := rfl
@[simp] theorem State.advance_chan : s.advance.chan = s.chan := rfl
@[simp] theorem State.advance_events : s.advance.events = s.events := rfl
@[simp] theorem State.advance_draws : s.advance.draws = s.draws + 1 := rfl

@[simp] theorem State.loadFull_wbuf (count : Nat) : (s.loadFull count).wbuf = s.wbuf := rfl
@[simp] theorem State.loadFull_x (count : Nat) : (s.loadFull count).x = s.x := rfl
@[simp] theorem State.loadFull_y (count : Nat) : (s.loadFull count).y = s.y := rfl
@[simp] theorem State.loadFull_z (count : Nat) : (s.loadFull count).z = s.z := rfl
@[simp] theorem State.loadFull_t (count : Nat) : (s.loadFull count).t = s.t := rfl
@[simp] theorem State.loadFull_valid (count : Nat) : (s.loadFull count).valid = s.valid := rfl
@[simp] theorem State.loadFull_phase (count : Nat) : (s.loadFull count).phase = s.phase := rfl
@[simp] theorem State.loadFull_sel (count : Nat) : (s.loadFull count).sel = s.sel := rfl
@[simp] theorem State.loadFull_par (count : Nat) : (s.loadFull count).par = s.par := rfl
@[simp] theorem State.loadFull_dr (count : Nat) : (s.loadFull count).dr = s.dr := rfl
@[simp] theorem State.loadFull_dw (count : Nat) : (s.loadFull count).dw = s.dw := rfl
@[simp] theorem State.loadFull_bus (count : Nat) : (s.loadFull count).bus = s.bus := rfl
@[simp] theorem State.loadFull_resetIn (count : Nat) : (s.loadFull count).resetIn = s.resetIn := rfl
@[simp] theorem State.loadFull_chan (count : Nat) : (s.loadFull count).chan = s.chan := rfl
@[simp] theorem State.loadFull_events (count : Nat) : (s.loadFull count).events = s.events := rfl
@[simp] theorem State.loadFull_draws (count : Nat) : (s.loadFull count).draws = s.draws := rfl

@[simp] theorem State.loadSample_wbuf (count : Nat) : (s.loadSample count).wbuf = s.wbuf := rfl
@[simp] theorem State.loadSample_x (count : Nat) : (s.loadSample count).x = s.x := rfl
@[simp] theorem State.loadSample_y (count : Nat) : (s.loadSample count).y = s.y := rfl
@[simp] theorem State.loadSample_z (count : Nat) : (s.loadSample count).z = s.z := rfl
@[simp] theorem State.loadSample_t (count : Nat) : (s.loadSample count).t = s.t := rfl
@[simp] theorem State.loadSample_valid (count : Nat) : (s.loadSample count).valid = s.valid := rfl
@[simp] theorem State.loadSample_phase (count : Nat) : (s.loadSample count).phase = s.phase := rfl
@[simp] theorem State.loadSample_sel (count : Nat) : (s.loadSample count).sel = s.sel := rfl
@[simp] theorem State.loadSample_par (count : Nat) : (s.loadSample count).par = s.par := rfl
@[simp] theorem State.loadSample_dr (count : Nat) : (s.loadSample count).dr = s.dr := rfl
@[simp] theorem State.loadSample_dw (count : Nat) : (s.loadSample count).dw = s.dw := rfl
@[simp] theorem State.loadSample_bus (count : Nat) : (s.loadSample count).bus = s.bus := rfl
@[simp] theorem State.loadSample_resetIn (count : Nat) : (s.loadSample count).resetIn = s.resetIn := rfl
@[simp] theorem State.loadSample_chan (count : Nat) : (s.loadSample count).chan = s.chan := rfl
@[simp] theorem State.loadSample_events (count : Nat) : (s.loadSample count).events = s.events := rfl
@[simp] theorem State.loadSample_draws (count : Nat) : (s.loadSample count).draws = s.draws := rfl

@[simp] theorem State.applyReset_rbuf : s.applyReset.rbuf = State.reset.rbuf := rfl
@[simp] theorem State.applyReset_wbuf : s.applyReset.wbuf = State.reset.wbuf := rfl
@[simp] theorem State.applyReset_x : s.applyReset.x = 0 := rfl
@[simp] theorem State.applyReset_y : s.applyReset.y = 0 := rfl
@[simp] theorem State.applyReset_z : s.applyReset.z = 0 := rfl
@[simp] theorem State.applyReset_t : s.applyReset.t = 0 := rfl
@[simp] theorem State.applyReset_valid : s.applyReset.valid = false := rfl
@[simp] theorem State.applyReset_phase : s.applyReset.phase = 0 := rfl
@[simp] theorem State.applyReset_sel : s.applyReset.sel = none := rfl
@[simp] theorem State.applyReset_par : s.applyReset.par = s.par := rfl
@[simp] theorem State.applyReset_dr : s.applyReset.dr = s.dr := rfl
@[simp] theorem State.applyReset_dw : s.applyReset.dw = s.dw := rfl
@[simp] theorem State.applyReset_bus : s.applyReset.bus = s.bus := rfl
@[simp] theorem State.applyReset_resetIn : s.applyReset.resetIn = s.resetIn := rfl
@[simp] theorem State.applyReset_chan : s.applyReset.chan = s.chan := rfl
@[simp] theorem State.applyReset_events : s.applyReset.events = [] := rfl
@[simp] theorem State.applyReset_draws : s.applyReset.draws = s.draws := rfl

end Sys2Proof.Machine
end

