-- ==== Sys2Proof/Laws/Ops.lean ====
section
/-! SUPPORT. What each shared operation of `Machine/Ops.lean` can do, said once. -/

namespace Sys2Proof.Machine

variable {s u : State}

/-- A bus call gives a next state only when the transport answers. -/
theorem onBus_eq_next {f : Nat → State} (h : onBus s f = .next u) :
    ∃ count, s.bus = .answers count ∧ u = f count := by
  unfold onBus at h
  split at h
  · next count hb => exact ⟨count, hb, by cases h; rfl⟩
  · cases h

/-- An answered bus call completes. -/
theorem onBus_answers {f : Nat → State} {count : Nat} (h : s.bus = .answers count) :
    onBus s f = .next (f count) := by
  simp [onBus, h]

/-- A stalled bus call has no step. -/
theorem onBus_stalls {f : Nat → State} (h : s.bus = .stalls) : onBus s f = .fault .busStalled := by
  simp [onBus, h]

/-- A bus call is never refused. -/
theorem onBus_ne_refused {f : Nat → State} {r : Refusal} : onBus s f ≠ .refused r := by
  unfold onBus
  split <;> simp

/-- A byte that arrived is the device's register. -/
theorem busByte_delivered {count : Nat} {i : Fin 10} (h : i.val < count) : s.busByte count i = s.dr[i] := by
  simp [State.busByte, h]

/-- A byte that did not arrive is a free value. -/
theorem busByte_missing {count : Nat} {i : Fin 10} (h : ¬ i.val < count) :
    s.busByte count i = Config.any8 s.draws i := by
  simp [State.busByte, h]

/-- A full read changes the receive buffer only. -/
theorem loadFull_eq (count : Nat) : s.loadFull count = s.setRbuf (s.loadFull count).rbuf := rfl

/-- A sample read changes the receive buffer only. -/
theorem loadSample_eq (count : Nat) : s.loadSample count = s.setRbuf (s.loadSample count).rbuf := rfl

/-- Every position of a full read is a bus byte. -/
theorem loadFull_rbuf (count : Nat) (i : Fin 10) : (s.loadFull count).rbuf[i] = s.busByte count i := by
  fin_cases i <;> rfl

/-- The first seven positions of a sample read are bus bytes. -/
theorem loadSample_rbuf_low (count : Nat) (i : Fin 10) (h : i.val < 7) :
    (s.loadSample count).rbuf[i] = s.busByte count i := by
  fin_cases i <;> first | rfl | (simp at h)

/-- The last three positions of a sample read keep what they held. -/
theorem loadSample_rbuf_high (count : Nat) (i : Fin 10) (h : 7 ≤ i.val) :
    (s.loadSample count).rbuf[i] = s.rbuf[i] := by
  fin_cases i <;> first | rfl | (simp at h)

/-- A configuration write changes the device's writable registers only. -/
theorem storeConfig_eq (count : Nat) : s.storeConfig count = s.setDw (s.storeConfig count).dw := by
  unfold State.storeConfig
  split <;> rfl

/-- A configuration write that succeeds in full gives the device the transmit buffer. -/
theorem storeConfig_full {count : Nat} (h : 4 ≤ count) : s.storeConfig count = s.setDw s.wbuf := by
  simp [State.storeConfig, h]

/-- The torn-read test writes the validity flag, and nothing else. -/
theorem checkStatus_eq : s.checkStatus = s.setValid (frameValid s.rbuf[3]) := by
  unfold State.checkStatus
  split <;> simp_all [State.raiseTornRead]

@[simp] theorem storeConfig_wbuf (count : Nat) : (s.storeConfig count).wbuf = s.wbuf := by rw [storeConfig_eq]; rfl
@[simp] theorem storeConfig_x (count : Nat) : (s.storeConfig count).x = s.x := by rw [storeConfig_eq]; rfl
@[simp] theorem storeConfig_y (count : Nat) : (s.storeConfig count).y = s.y := by rw [storeConfig_eq]; rfl
@[simp] theorem storeConfig_z (count : Nat) : (s.storeConfig count).z = s.z := by rw [storeConfig_eq]; rfl
@[simp] theorem storeConfig_t (count : Nat) : (s.storeConfig count).t = s.t := by rw [storeConfig_eq]; rfl
@[simp] theorem storeConfig_valid (count : Nat) : (s.storeConfig count).valid = s.valid := by rw [storeConfig_eq]; rfl
@[simp] theorem storeConfig_phase (count : Nat) : (s.storeConfig count).phase = s.phase := by rw [storeConfig_eq]; rfl
@[simp] theorem storeConfig_sel (count : Nat) : (s.storeConfig count).sel = s.sel := by rw [storeConfig_eq]; rfl
@[simp] theorem storeConfig_par (count : Nat) : (s.storeConfig count).par = s.par := by rw [storeConfig_eq]; rfl
@[simp] theorem storeConfig_dr (count : Nat) : (s.storeConfig count).dr = s.dr := by rw [storeConfig_eq]; rfl
@[simp] theorem storeConfig_bus (count : Nat) : (s.storeConfig count).bus = s.bus := by rw [storeConfig_eq]; rfl
@[simp] theorem storeConfig_resetIn (count : Nat) : (s.storeConfig count).resetIn = s.resetIn := by rw [storeConfig_eq]; rfl
@[simp] theorem storeConfig_chan (count : Nat) : (s.storeConfig count).chan = s.chan := by rw [storeConfig_eq]; rfl
@[simp] theorem storeConfig_events (count : Nat) : (s.storeConfig count).events = s.events := by rw [storeConfig_eq]; rfl
@[simp] theorem storeConfig_draws (count : Nat) : (s.storeConfig count).draws = s.draws := by rw [storeConfig_eq]; rfl
@[simp] theorem storeConfig_rbuf (count : Nat) : (s.storeConfig count).rbuf = s.rbuf := by rw [storeConfig_eq]; rfl

@[simp] theorem checkStatus_wbuf : s.checkStatus.wbuf = s.wbuf := by rw [checkStatus_eq]; rfl
@[simp] theorem checkStatus_x : s.checkStatus.x = s.x := by rw [checkStatus_eq]; rfl
@[simp] theorem checkStatus_y : s.checkStatus.y = s.y := by rw [checkStatus_eq]; rfl
@[simp] theorem checkStatus_z : s.checkStatus.z = s.z := by rw [checkStatus_eq]; rfl
@[simp] theorem checkStatus_t : s.checkStatus.t = s.t := by rw [checkStatus_eq]; rfl
@[simp] theorem checkStatus_phase : s.checkStatus.phase = s.phase := by rw [checkStatus_eq]; rfl
@[simp] theorem checkStatus_sel : s.checkStatus.sel = s.sel := by rw [checkStatus_eq]; rfl
@[simp] theorem checkStatus_par : s.checkStatus.par = s.par := by rw [checkStatus_eq]; rfl
@[simp] theorem checkStatus_dr : s.checkStatus.dr = s.dr := by rw [checkStatus_eq]; rfl
@[simp] theorem checkStatus_dw : s.checkStatus.dw = s.dw := by rw [checkStatus_eq]; rfl
@[simp] theorem checkStatus_bus : s.checkStatus.bus = s.bus := by rw [checkStatus_eq]; rfl
@[simp] theorem checkStatus_resetIn : s.checkStatus.resetIn = s.resetIn := by rw [checkStatus_eq]; rfl
@[simp] theorem checkStatus_chan : s.checkStatus.chan = s.chan := by rw [checkStatus_eq]; rfl
@[simp] theorem checkStatus_events : s.checkStatus.events = s.events := by rw [checkStatus_eq]; rfl
@[simp] theorem checkStatus_draws : s.checkStatus.draws = s.draws := by rw [checkStatus_eq]; rfl
@[simp] theorem checkStatus_rbuf : s.checkStatus.rbuf = s.rbuf := by rw [checkStatus_eq]; rfl
@[simp] theorem checkStatus_valid : s.checkStatus.valid = frameValid s.rbuf[3] := by rw [checkStatus_eq]; rfl

/-- Between steps every readable register takes a value that depends on the device's configuration and on the draw. -/
theorem advance_dr (i : Fin 10) : s.advance.dr[i] = Config.liveByte s.dw s.draws i := by
  fin_cases i <;> rfl

/-- While `valid` is 1 the signed Sample is presented. -/
theorem presented_valid (h : s.valid = true) :
    s.presented = .sample (s12 s.x) (s12 s.y) (s12 s.z) (s12 s.t) := by
  simp [State.presented, h]

/-- While `valid` is 0 only the error marker is presented. -/
theorem presented_torn (h : s.valid = false) : s.presented = .errorMarker := by
  simp [State.presented, h]

/-- What is presented depends on the sample registers and the flag alone. -/
theorem presented_congr {s' : State} (hx : s.x = s'.x) (hy : s.y = s'.y) (hz : s.z = s'.z) (ht : s.t = s'.t)
    (hv : s.valid = s'.valid) : s.presented = s'.presented := by
  simp [State.presented, hx, hy, hz, ht, hv]

/-- An error marker leaves the channel's count. -/
@[simp] theorem receive_errorMarker_count (c : Channel) : (c.receive .errorMarker).count = c.count := rfl

/-- A sample advances the channel's count. -/
@[simp] theorem receive_sample_count (c : Channel) (x y z t : Int) :
    (c.receive (.sample x y z t)).count = c.count + 1 := rfl

end Sys2Proof.Machine
end

