-- ==== Sys2Proof/Laws/Exec.lean ====
section
/-! SUPPORT. What each operation and one step can do, said once: the equation of every meaning, and the inversion of
`step` that the invariants are derived from. -/

namespace Sys2Proof.Machine

variable {s u : State}

theorem exec_cfg0 : exec .cfg0 s = .next (s.setWbuf (s.wbuf.set 0 cfgByte0)) := rfl

theorem exec_cfg1 :
    exec .cfg1 s = .next (s.setWbuf (s.wbuf.set 1 (cfgByte1 s.rbuf[7] s.par.preset[1]))) := rfl

theorem exec_cfg2 :
    exec .cfg2 s = .next (s.setWbuf (s.wbuf.set 2 (cfgByte2 s.rbuf[8] s.par.preset[2]))) := rfl

theorem exec_cfg3 :
    exec .cfg3 s = .next (s.setWbuf (s.wbuf.set 3 (cfgByte3 s.rbuf[9] s.par.preset[3]))) := rfl

theorem exec_merge : exec .merge s = .next ((s.setWbuf (mergeFrame s.rbuf s.par.preset)).goto 2) := rfl

theorem exec_extx : exec .extx s = .next (s.setX (channelX s.rbuf[0] s.rbuf[4])) := rfl

theorem exec_exty : exec .exty s = .next (s.setY (channelY s.rbuf[1] s.rbuf[4])) := rfl

theorem exec_extz : exec .extz s = .next (s.setZ (channelZ s.rbuf[2] s.rbuf[5])) := rfl

theorem exec_extt : exec .extt s = .next (s.setT (channelT s.rbuf[3] s.rbuf[6])) := rfl

theorem exec_chkv : exec .chkv s = .next (s.setValid (frameValid s.rbuf[3])) := by
  show Host.Outcome.next s.checkStatus = _
  rw [checkStatus_eq]

theorem exec_decode :
    exec .decode s = .next ((((((s.setX (channelX s.rbuf[0] s.rbuf[4])).setY (channelY s.rbuf[1] s.rbuf[4])).setZ
      (channelZ s.rbuf[2] s.rbuf[5])).setT (channelT s.rbuf[3] s.rbuf[6])).setValid (frameValid s.rbuf[3])).goto 6) := by
  show Host.Outcome.next (State.goto (State.checkStatus _) 6) = _
  rw [checkStatus_eq]
  rfl

theorem exec_wait : exec .wait s = .next (s.goto 4) := rfl

theorem exec_emit : exec .emit s = .next ((s.deliver s.presented).goto 3) := rfl

theorem exec_rdfull {count : Nat} (h : s.bus = .answers count) :
    exec .rdfull s = .next (((s.loadFull count).noteFullRead.drawn).goto 1) :=
  onBus_answers h

theorem exec_wrcfg {count : Nat} (h : s.bus = .answers count) :
    exec .wrcfg s = .next ((((s.storeConfig count).record (.memWrite s.par.devAddr s.wbuf)).drawn).goto 3) :=
  onBus_answers h

theorem exec_rdsmp {count : Nat} (h : s.bus = .answers count) :
    exec .rdsmp s = .next (((s.loadSample count).noteSampleRead.drawn).goto 5) :=
  onBus_answers h

theorem exec_rdfull_inv (h : exec .rdfull s = .next u) : ∃ count, s.bus = .answers count ∧
    u = ((s.loadFull count).noteFullRead.drawn).goto 1 :=
  onBus_eq_next h

theorem exec_wrcfg_inv (h : exec .wrcfg s = .next u) : ∃ count, s.bus = .answers count ∧
    u = (((s.storeConfig count).record (.memWrite s.par.devAddr s.wbuf)).drawn).goto 3 :=
  onBus_eq_next h

theorem exec_rdsmp_inv (h : exec .rdsmp s = .next u) : ∃ count, s.bus = .answers count ∧
    u = ((s.loadSample count).noteSampleRead.drawn).goto 5 :=
  onBus_eq_next h

/-- A fetched operation is the decoding of the next code. -/
theorem fetch_eq_ok {i : Instr} (h : s.fetch = .ok i) : decode s.nextCode = .ok i := by
  unfold State.fetch at h
  split at h
  · next j hj => cases h; exact hj
  · cases h

/-- A step that answers a next state held the block in reset, or ran the next operation to completion. -/
theorem step_eq_next (h : step s = .next u) :
    (s.resetIn = true ∧ u = s.applyReset.advance) ∨
      (s.resetIn = false ∧ ∃ i v, decode s.nextCode = .ok i ∧ exec i s = .next v ∧ u = v.advance) := by
  unfold step at h
  split at h
  · next hr => left; cases h; exact ⟨hr, rfl⟩
  · next hr =>
    right
    refine ⟨by simpa using hr, ?_⟩
    split at h
    · next i hi =>
      unfold afterNext at h
      split at h
      · next v hv => cases h; exact ⟨i, v, fetch_eq_ok hi, hv, rfl⟩
      · cases h
      · cases h
    · cases h

end Sys2Proof.Machine
end

