-- ==== Sys2Proof/Laws/PerInstr.lean ====
section
/-! SUPPORT. Statements about every operation as syntax, one lemma per constructor: its code is well formed, has the
width of the operation's format, and is a P code exactly for a sequenced operation (`30_encoding.md` rules R56,
R57, R61). -/

namespace Sys2Proof.Laws.CodeForm

/-- The form of an operation's code. -/
def Statement (i : Sys2Proof.Instr) : Prop :=
  (Sys2Proof.encode i).wf = true ∧
    (Sys2Proof.encode i).width = (if i.sequenced then 3 else 4) ∧
    (i.sequenced = true ↔ ∃ c, Sys2Proof.encode i = .p c)

/-- A P code. -/
theorem of_p {i : Sys2Proof.Instr} {c : BitVec 3} (h : Sys2Proof.encode i = .p c) (hc : c.toNat < 7)
    (hs : i.sequenced = true) : Statement i := by
  refine ⟨by simp [h, Sys2Proof.Code.wf, hc], by simp [h, hs, Sys2Proof.Code.width], ?_⟩
  simp [h, hs]

/-- An F code. -/
theorem of_f {i : Sys2Proof.Instr} {c : BitVec 4} (h : Sys2Proof.encode i = .f c) (hc : c.toNat < 9)
    (hs : i.sequenced = false) : Statement i := by
  refine ⟨by simp [h, Sys2Proof.Code.wf, hc], by simp [h, hs, Sys2Proof.Code.width], ?_⟩
  simp [h, hs]

theorem rdfull : Statement .rdfull := of_p rfl (by decide) rfl
theorem merge : Statement .merge := of_p rfl (by decide) rfl
theorem wrcfg : Statement .wrcfg := of_p rfl (by decide) rfl
theorem wait : Statement .wait := of_p rfl (by decide) rfl
theorem rdsmp : Statement .rdsmp := of_p rfl (by decide) rfl
theorem decode : Statement .decode := of_p rfl (by decide) rfl
theorem emit : Statement .emit := of_p rfl (by decide) rfl
theorem cfg0 : Statement .cfg0 := of_f rfl (by decide) rfl
theorem cfg1 : Statement .cfg1 := of_f rfl (by decide) rfl
theorem cfg2 : Statement .cfg2 := of_f rfl (by decide) rfl
theorem cfg3 : Statement .cfg3 := of_f rfl (by decide) rfl
theorem extx : Statement .extx := of_f rfl (by decide) rfl
theorem exty : Statement .exty := of_f rfl (by decide) rfl
theorem extz : Statement .extz := of_f rfl (by decide) rfl
theorem extt : Statement .extt := of_f rfl (by decide) rfl
theorem chkv : Statement .chkv := of_f rfl (by decide) rfl

end Sys2Proof.Laws.CodeForm
end

