-- ==== Sys2Proof/Tests/Slice0.lean ====
section
/-! SUPPORT. The model's own tests, one small step each. Expected results are those of `95_test_vectors.md` (S1, S2,
V1 to V13, P1 to P4) or of the rule named. After them, for every statement with hypotheses, a concrete state and
operands that meet them. -/

namespace Sys2Proof.Tests

open Sys2Proof Sys2Proof.Machine

/-- The example preset PA of `95_test_vectors.md`. -/
def presetA : Vector Byte 4 := #v[0x00, 0x05, 0x00, 0x40]

/-- The receive buffer of V11. -/
def bufV11 : Vector Byte 10 := #v[0x12, 0x34, 0x56, 0x78, 0x9A, 0xBC, 0xDE, 0xA5, 0x5A, 0xC3]

/-- A small state: the receive buffer of V11, preset PA, the device of P1, an answered bus. -/
def base : State where
  rbuf := bufV11
  wbuf := #v[0xAA, 0xAA, 0xAA, 0xAA]
  x := 0x100
  y := 0x200
  z := 0x300
  t := 0x000
  valid := true
  phase := 3
  sel := none
  par := { preset := presetA, presetName := .lowPower, devAddr := 94, delay := 1 }
  dr := #v[0x11, 0x22, 0x33, 0x44, 0x55, 0x66, 0x77, 0xA5, 0x5A, 0xC3]
  dw := #v[0, 0, 0, 0]
  bus := .answers 10
  resetIn := false
  chan := { count := 0, rows := [] }
  events := []
  draws := 0

/-- The next state of an outcome. -/
def after : Host.Outcome State Fault Refusal → Option State
  | .next s => some s
  | .fault _ => none
  | .refused _ => none

/-! ## Codes: the tables of R56, R57 and the codes of programs P1, P2, P4 -/

theorem test_decode_configure : decode (.p 0b000#3) = .ok .rdfull ∧ decode (.p 0b001#3) = .ok .merge ∧
    decode (.p 0b010#3) = .ok .wrcfg := by decide
theorem test_decode_cycle : decode (.p 0b011#3) = .ok .wait ∧ decode (.p 0b100#3) = .ok .rdsmp ∧
    decode (.p 0b101#3) = .ok .decode ∧ decode (.p 0b110#3) = .ok .emit := by decide
theorem test_decode_cfg : decode (.f 0b0000#4) = .ok .cfg0 ∧ decode (.f 0b0001#4) = .ok .cfg1 ∧
    decode (.f 0b0010#4) = .ok .cfg2 ∧ decode (.f 0b0011#4) = .ok .cfg3 := by decide
theorem test_decode_ext : decode (.f 0b0100#4) = .ok .extx ∧ decode (.f 0b0101#4) = .ok .exty ∧
    decode (.f 0b0110#4) = .ok .extz ∧ decode (.f 0b0111#4) = .ok .extt ∧
    decode (.f 0b1000#4) = .ok .chkv := by decide
theorem test_table_words : decodeTableWord 3 5 = some .decode ∧ decodeTableWord 4 5 = some .exty ∧
    decodeTableWord 8 5 = some .decode ∧ decodeTableWord 8 8 = some .chkv ∧ decodeTableWord 8 9 = none ∧
    decodeTableWord 3 7 = none := by decide

/-! ## Well-formedness: an ill-formed term for each check -/

theorem test_code_wf : Code.wf (.p 6) = true ∧ Code.wf (.p 7) = false ∧ Code.wf (.f 8) = true ∧
    Code.wf (.f 9) = false := by decide
/-- The ill-formed presets of V10, and one for the calibration bits of byte 3 alone. -/
theorem test_presetWF : presetWF presetA = true ∧ presetWF #v[0x00, 0x87, 0x00, 0xF0] = true ∧
    presetWF #v[0x01, 0x05, 0x00, 0x40] = false ∧ presetWF #v[0x00, 0x7F, 0x00, 0x40] = false ∧
    presetWF #v[0x00, 0x05, 0x01, 0x40] = false ∧ presetWF #v[0x00, 0x05, 0x00, 0x4F] = false := by decide
theorem test_admitted : base.par.admitted = true ∧
    Params.admitted { base.par with presetName := .fastMode } = false ∧
    Params.admitted { base.par with preset := #v[1, 0, 0, 0] } = false := by decide

/-! ## The Configurator: V9, V10 -/

theorem test_cfg0 : (after (exec .cfg0 base)).map (·.wbuf) = some #v[0x00, 0xAA, 0xAA, 0xAA] := by decide
theorem test_cfg1 : (after (exec .cfg1 base)).map (·.wbuf) = some #v[0xAA, 0x25, 0xAA, 0xAA] := by decide
theorem test_cfg2 : (after (exec .cfg2 base)).map (·.wbuf) = some #v[0xAA, 0xAA, 0x5A, 0xAA] := by decide
theorem test_cfg3 : (after (exec .cfg3 base)).map (·.wbuf) = some #v[0xAA, 0xAA, 0xAA, 0x43] := by decide
theorem test_merge : (after (exec .merge base)).map (fun u => (u.wbuf, u.phase)) =
    some (#v[0x00, 0x25, 0x5A, 0x43], 2) := by decide
/-- An ill-formed preset: the rows of V10 where calibration bits are lost and where byte 0 stays zero. -/
theorem test_merge_ill_formed :
    mergeFrame bufV11 #v[0x00, 0x7F, 0x00, 0x4F] = #v[0x00, 0x7F, 0x5A, 0x4F] ∧
    mergeFrame bufV11 #v[0x01, 0x05, 0x01, 0x40] = #v[0x00, 0x25, 0x5B, 0x43] := by decide

/-! ## The SampleDecoder: V1 to V8, V11, S1, S2 -/

theorem test_s12 : s12 0x7FF = 2047 ∧ s12 0x800 = -2048 ∧ s12 0xFFF = -1 ∧ s12 0x400 = 1024 := by decide
theorem test_extx : (after (exec .extx base)).map (·.x) = some 0x129 := by decide
theorem test_exty : (after (exec .exty base)).map (·.y) = some 0x34A := by decide
theorem test_extz : (after (exec .extz base)).map (·.z) = some 0x56C := by decide
theorem test_extt : (after (exec .extt base)).map (·.t) = some 0x70E := by decide
/-- V5: all ignored bits set. -/
theorem test_extt_ignored : channelT 0xFF 0xFF = 0xF0F ∧ channelT 0x8C 0x10 = 0x800 := by decide
/-- V6. -/
theorem test_chkv : frameValid 0xFC = true ∧ frameValid 0x01 = false ∧ frameValid 0x02 = false ∧
    frameValid 0xFF = false := by decide
theorem test_chkv_step : (after (exec .chkv { base with valid := false })).map (·.valid) = some true := by decide
/-- S1. -/
theorem test_decode_scenario : outputOf (decodeFrame #v[0x10, 0x20, 0x30, 0x00, 0x00, 0x00, 0x00]) =
    .sample 256 512 768 0 := by decide
/-- V7, row of ones: torn, and the registers hold the computed patterns. -/
theorem test_decode_torn : (after (exec .decode { base with rbuf := #v[0xFF, 0xFF, 0xFF, 0xFF, 0xFF, 0xFF, 0xFF, 0, 0, 0] })).map
    (fun u => (u.x, u.t, u.valid, u.phase)) = some (0xFFF, 0xF0F, false, 6) := by decide
/-- V8. -/
theorem test_pack : packFrame 1234 (-1234) 77 (-1009) = #v[0x4D, 0xB2, 0x04, 0xC0, 0x2E, 0x0D, 0x0F] := by decide
/-- V11. -/
theorem test_fmux : fmux 1 bufV11 presetA = some 0x025 ∧ fmux 5 bufV11 presetA = some 0x34A ∧
    fmux 7 bufV11 presetA = some 0x70E ∧ fmux 8 bufV11 presetA = some 0x001 ∧ fmux 9 bufV11 presetA = none := by decide

/-! ## The sequencer: P1 to P3, V12, V13 -/

/-- P1, step 1. -/
theorem test_rdfull : (after (exec .rdfull { base with phase := 0 })).map (fun u => (u.rbuf, u.phase)) =
    some (#v[0x11, 0x22, 0x33, 0x44, 0x55, 0x66, 0x77, 0xA5, 0x5A, 0xC3], 1) := by decide
/-- P1, step 3. -/
theorem test_wrcfg : (after (exec .wrcfg { base with wbuf := #v[0x00, 0x25, 0x5A, 0x43] })).map
    (fun u => (u.dw, u.phase)) = some (#v[0x00, 0x25, 0x5A, 0x43], 3) := by decide
theorem test_wait : (after (exec .wait base)).map (fun u => (u.phase, u.rbuf)) = some (4, bufV11) := by decide
/-- P2, step 2: positions 7 to 9 keep the full read's bytes. -/
theorem test_rdsmp : (after (exec .rdsmp { base with bus := .answers 7 })).map (fun u => (u.rbuf, u.phase)) =
    some (#v[0x11, 0x22, 0x33, 0x44, 0x55, 0x66, 0x77, 0xA5, 0x5A, 0xC3], 5) := by decide
/-- V13: a six-byte answer delivers positions 0 to 5. -/
theorem test_rdsmp_short : (after (exec .rdsmp { base with bus := .answers 6 })).map (fun u => (u.rbuf[5], u.rbuf[7])) =
    some (0x66, 0xA5) := by decide
/-- The example of R106. -/
theorem test_emit : (after (exec .emit base)).map (fun u => (u.events, u.phase)) =
    some ([.output (.sample 256 512 768 0)], 3) := by decide
theorem test_emit_torn : (after (exec .emit { base with valid := false })).map (fun u => (u.events, u.chan.count)) =
    some ([.output .errorMarker], 0) := by decide
/-- R107: a header before samples 0 and 15. -/
theorem test_header : (Channel.receive { count := 0, rows := [] } (.sample 1 2 3 4)).rows = [.sample 1 2 3 4, .header] ∧
    (Channel.receive { count := 14, rows := [] } (.sample 1 2 3 4)).rows = [.sample 1 2 3 4] ∧
    (Channel.receive { count := 15, rows := [] } (.sample 1 2 3 4)).rows = [.sample 1 2 3 4, .header] := by decide
/-- V12: one step takes phase 6 to phase 3. -/
theorem test_step_wraps : (after (step { base with phase := 6 })).map (·.phase) = some 3 := by decide
/-- P4: a field operation issued alone leaves the phase. -/
theorem test_step_field : (after (step { base with sel := some 4 })).map (fun u => (u.x, u.phase, u.sel)) =
    some (0x129, 3, none) := by decide

/-- Operations placed as the first after reset run: a bus operation, a sequenced one, a field operation; a reserved code
does not. -/
theorem test_first_after_reset : (after (step (State.reset.withFetchWord 8 0))).isSome = true ∧
    (after (step (State.reset.withFetchWord 3 5))).map (·.phase) = some 6 ∧
    (after (step (State.reset.withFetchWord 4 8))).map (·.valid) = some true ∧
    (after (step (State.reset.withFetchWord 8 9))).isSome = false := by decide
/-- Reset holds the block and not the device. -/
theorem test_reset_input : (after (step { base with resetIn := true })).map (fun u => (u.phase, u.valid, u.dw)) =
    some (0, false, base.dw) := by decide
/-- P5: a read that never returns has no step. -/
theorem test_stalled : (after (exec .rdsmp { base with bus := .stalls })).isSome = false := by decide

/-! ## Witnesses: a state and operands for the hypotheses of each statement -/

theorem test_witness_DecodeAndEncodeAgree : decode (.f 8#4) = .ok .chkv ∧ decode (.p 6#3) = .ok .emit ∧
    decodeTableWord 8 6 = some .emit ∧ decodeTableWord 4 0 = some .cfg0 := by decide
theorem test_witness_StepRunsTheDecodedOperation :
    (base.resetIn = false ∧ base.sel = none ∧ decode (.p base.phase) = .ok .wait) ∧
    ({ base with sel := some 8 } : State).sel = some 8 ∧ decode (.f 8) = .ok .chkv := by decide
theorem test_witness_ReservedCodesHaveNoStep :
    (({ base with phase := 7 } : State).resetIn = false ∧ ({ base with phase := 7 } : State).sel = none) ∧
    9 ≤ (9#4).toNat ∧ 9 ≤ (15#4).toNat := by decide
theorem test_witness_AppliedResetHoldsTheBlock : ({ base with resetIn := true } : State).resetIn = true := rfl
theorem test_witness_Cfg1MergesRegisterSeven : presetWF base.par.preset = true ∧
    ({ base with rbuf := #v[0, 0, 0, 0, 0, 0, 0, 0x00, 0, 0] } : State).rbuf[7] = 0x00 ∧
    ({ base with rbuf := #v[0, 0, 0, 0, 0, 0, 0, 0xFF, 0, 0] } : State).rbuf[7] = 0xFF := by decide
theorem test_witness_Cfg2CopiesRegisterEight : presetWF base.par.preset = true := by decide
theorem test_witness_Cfg3MergesRegisterNine : presetWF base.par.preset = true ∧
    ({ base with rbuf := #v[0, 0, 0, 0, 0, 0, 0, 0, 0, 0x00] } : State).rbuf[9] = 0x00 ∧
    ({ base with rbuf := #v[0, 0, 0, 0, 0, 0, 0, 0, 0, 0xFF] } : State).rbuf[9] = 0xFF := by decide
theorem test_witness_MergeBuildsTheConfigFrame :
    [Instr.cfg3, .cfg1, .cfg0, .cfg2].Perm [.cfg0, .cfg1, .cfg2, .cfg3] ∧
    (after (exec .merge base)).isSome = true ∧
    base.rbuf[7] = ({ base with rbuf := bufV11.set 0 0xFF } : State).rbuf[7] := by decide
theorem test_witness_MergeGuarantee : presetWF presetA = true ∧ (1 ≤ 1 ∧ 1 < 4) ∧ (1 ≤ 3 ∧ 3 < 4) ∧
    bufV11[7] &&& 0x78#8 = (bufV11.set 7 0x22)[7] &&& 0x78#8 ∧
    bufV11[9] &&& 0x0F#8 = (bufV11.set 9 0x03)[9] &&& 0x0F#8 := by decide
theorem test_witness_SignedReadingOfTwelveBits : base.valid = true := rfl
theorem test_witness_SignedReadingIsABijection : s12 0x800 = s12 0x800 ∧ (-2048 : Int) ≤ -2048 ∧ (2047 : Int) ≤ 2047 ∧
    12 ≤ 12 ∧ 12 ≤ 16 := by decide
theorem test_witness_ExtxTakesTheUpperNibble :
    (0x7F#8 = 0x7F#8 ∧ (0xF0#8).extractLsb' 4 4 = 0xF#4) ∧ (0x80#8 = 0x80#8 ∧ (0x0F#8).extractLsb' 4 4 = 0x0#4) := by
  decide
theorem test_witness_TemperatureValues : (after (exec .extt base)).isSome = true ∧ tValue (-241) ∧ tValue (-2048) ∧
    tValue 1807 :=
  ⟨by decide, ⟨15, 15, by decide⟩, ⟨8, 0, by decide⟩, ⟨7, 15, by decide⟩⟩
theorem test_witness_ChkvTestsTheStatusBits : base.rbuf[3] &&& 0x03#8 = 0x00#8 ∧
    ({ base with rbuf := bufV11.set 3 0x7D } : State).rbuf[3] &&& 0x03#8 ≠ 0x00#8 := by decide
theorem test_witness_DecodeBuildsTheSample :
    [Instr.chkv, .extt, .extz, .exty, .extx].Perm [.extx, .exty, .extz, .extt, .chkv] ∧
    (after (exec .decode base)).isSome = true := by decide
theorem test_witness_TornFrameIsNeverPresented :
    ({ base with rbuf := bufV11.set 3 0x01 } : State).rbuf[3].extractLsb' 0 2 ≠ 0#2 ∧
    ({ base with rbuf := bufV11.set 3 0xFF } : State).rbuf[3].extractLsb' 0 2 ≠ 0#2 := by decide
/-- The frame of V8's second row with every ignored bit set but STATUS. -/
theorem test_witness_PackThenDecodeRoundTrip :
    let f : Vector Byte 7 := #v[0x7F, 0x80, 0xFF, 0x7C, 0xF0, 0xFF, 0xFF]
    let p := packFrame 2047 (-2048) (-1) 1807
    tValue 1807 ∧ f[0] = p[0] ∧ f[1] = p[1] ∧ f[2] = p[2] ∧ f[3] &&& 0xF3#8 = p[3] ∧ f[4] = p[4] ∧
    f[5] &&& 0x0F#8 = p[5] ∧ f[6] &&& 0x0F#8 = p[6] :=
  ⟨⟨7, 15, by decide⟩, by decide⟩
/-- V7, the two rows that differ in ignored bits only. -/
theorem test_witness_IgnoredBitsChangeNothing :
    let f : Vector Byte 7 := #v[0x12, 0x34, 0x56, 0x78, 0x9A, 0xBC, 0xDE]
    let f' : Vector Byte 7 := #v[0x12, 0x34, 0x56, 0x7C, 0x9A, 0xBC, 0xDE]
    f[3] &&& 0xF3#8 = f'[3] &&& 0xF3#8 ∧ f[5] &&& 0x0F#8 = f'[5] &&& 0x0F#8 ∧
    f[6] &&& 0x0F#8 = f'[6] &&& 0x0F#8 ∧ bufV11[7] &&& 0x78#8 = (bufV11.set 7 0x22)[7] &&& 0x78#8 ∧
    base.phase ≠ 7 ∧ (after (exec .wait base)).isSome = true ∧
    9 ≤ (9#4).toNat ∧ 9 ≤ (15#4).toNat := by decide
theorem test_witness_FieldMultiplexerAgrees : 9 ≤ (9#4).toNat ∧ 9 ≤ (15#4).toNat ∧
    (fmux 0 bufV11 presetA).isSome ∧ (fmux 1 bufV11 presetA).isSome ∧ (fmux 2 bufV11 presetA).isSome ∧
    (fmux 3 bufV11 presetA).isSome ∧ (fmux 4 bufV11 presetA).isSome ∧ (fmux 5 bufV11 presetA).isSome ∧
    (fmux 6 bufV11 presetA).isSome ∧ (fmux 7 bufV11 presetA).isSome ∧ (fmux 8 bufV11 presetA).isSome := by decide
/-- An answer in full, one short by two, a stalled bus; phase 0 kept by a field operation. -/
theorem test_witness_RdfullLoadsTenRegisters : base.bus = .answers 10 ∧
    ({ base with bus := .answers 8 } : State).bus = .answers 8 ∧
    ({ base with bus := .stalls } : State).bus = .stalls ∧
    (after (exec .extx { base with phase := 0 })).map (·.phase) = some 0 ∧
    bufV11[7] = (bufV11.set 0 0xFF)[7] := by decide
/-- An answer in full, one short, a stalled bus; phase 2 reached by MERGE and kept by a field operation. -/
theorem test_witness_WrcfgStoresTheConfigFrame : ({ base with bus := .answers 4 } : State).bus = .answers 4 ∧
    ({ base with bus := .answers 3 } : State).bus = .answers 3 ∧
    ({ base with bus := .stalls } : State).bus = .stalls ∧
    (after (exec .merge base)).map (·.phase) = some 2 ∧
    (after (exec .cfg0 { base with phase := 2 })).map (·.phase) = some 2 := by decide
theorem test_witness_WaitChangesThePhaseOnly : (after (exec .wrcfg base)).isSome = true ∧
    (after (exec .emit base)).isSome = true := by decide
/-- An answer in full, one of six bytes, none at all, a stalled bus; phase 4 reached by WAIT and kept. -/
theorem test_witness_RdsmpLoadsSevenRegisters : ({ base with bus := .answers 7 } : State).bus = .answers 7 ∧
    ({ base with bus := .answers 6 } : State).bus = .answers 6 ∧
    ({ base with bus := .answers 0 } : State).bus = .answers 0 ∧
    ({ base with bus := .stalls } : State).bus = .stalls ∧
    (after (exec .wait base)).map (·.phase) = some 4 ∧
    (after (exec .extx { base with phase := 4 })).map (·.phase) = some 4 := by decide
theorem test_witness_EmitHandsOverTheSample : base.valid = true ∧ ({ base with valid := false } : State).valid = false := by
  decide
/-- Each bus operation stalled and answered, another operation completing, each bus phase of a step, reset applied. -/
theorem test_witness_OnlyAStalledBusStops : ({ base with bus := .stalls } : State).bus = .stalls ∧
    base.bus = .answers 10 ∧ Instr.wait ≠ .rdfull ∧ Instr.wait ≠ .wrcfg ∧ Instr.wait ≠ .rdsmp ∧
    base.resetIn = false ∧ base.sel = none ∧ ({ base with phase := 0 } : State).phase = 0#3 ∧
    ({ base with phase := 2 } : State).phase = 2#3 ∧ ({ base with phase := 4 } : State).phase = 4#3 ∧
    ({ base with resetIn := true } : State).resetIn = true := by decide
theorem test_witness_SuccessorNeverDependsOnData : base.resetIn = false ∧ base.sel = none ∧
    (after (step base)).isSome = true ∧ (after (step { base with phase := 6 })).isSome = true ∧
    (after (exec .decode base)).isSome = true := by decide
theorem test_witness_ShortReadGoesUnseen : ({ base with bus := .answers 6 } : State).bus = .answers 6 ∧
    ({ base with bus := .answers 8 } : State).bus = .answers 8 := by decide
/-- WAIT next, and RDSMP next with a read answered just in full. -/
theorem test_witness_FullReadPresentsTheDevice : (base.resetIn = false ∧ base.sel = none ∧ base.phase = 3#3) ∧
    ({ base with phase := 4, bus := .answers 7 } : State).phase = 4#3 ∧
    ({ base with phase := 4, bus := .answers 7 } : State).bus = .answers 7 ∧ 7 ≤ 7 := by decide
/-- P1: the device of P1 and preset PA; the read and the write answered just in full. -/
theorem test_witness_ConfigurePreservesCalibration :
    (({ base with phase := 0 } : State).resetIn = false ∧ ({ base with phase := 0 } : State).sel = none ∧
      ({ base with phase := 0 } : State).bus = .answers 10 ∧ 10 ≤ 10 ∧ 4 ≤ 4) ∧
    presetWF base.par.preset = true ∧ mergeFrame base.dr base.par.preset = #v[0x00, 0x25, 0x5A, 0x43] := by decide
/-- WRCFG next, answered in full and short by one; any step that completes. -/
theorem test_witness_LaterReadsDependOnTheConfiguration :
    (({ base with phase := 2, bus := .answers 4 } : State).resetIn = false ∧
      ({ base with phase := 2, bus := .answers 4 } : State).sel = none ∧
      ({ base with phase := 2, bus := .answers 4 } : State).bus = .answers 4 ∧
      ({ base with phase := 2, bus := .answers 3 } : State).bus = .answers 3 ∧ 7 ≤ 7) ∧
    (after (step base)).isSome = true := by decide
theorem test_witness_WriteFailureLeavesTheBlock : 0 < 4 ∧ 3 < 4 ∧
    (after (exec .merge base)).map (·.phase) = some 2 ∧
    (after (exec .cfg0 { base with phase := 2 })).map (·.phase) = some 2 := by decide

/-- A state with another Y and no other difference: it agrees with `base` on everything EXTX reads. -/
def baseY : State := { base with y := 0x7FF }

theorem test_witness_OperationsKeepToTheirRow : (after (exec .extx base)).isSome = true ∧
    (after (exec .extx baseY)).isSome = true ∧ base.bus = baseY.bus ∧ base.draws = baseY.draws ∧
    (∀ e : Elem, Instr.extx.reads e = true → base.elem e = baseY.elem e) ∧ Instr.extx.writes .x = true ∧
    Instr.extx.writes .y = false := by
  refine ⟨by decide, by decide, rfl, rfl, ?_, by decide, by decide⟩
  intro e h
  cases e <;> first | rfl | (simp [Instr.reads] at h)
theorem test_witness_OperationsLeaveTheSurroundings : (after (exec .merge base)).isSome = true ∧
    (after (exec .wrcfg base)).isSome = true := by decide
theorem test_witness_ParametersNeverChange : (after (exec .wait base)).isSome = true ∧
    (after (step base)).isSome = true ∧ base.par.admitted = true := by decide

/-- A state of a run that has presented the Sample of S1 and is about to wait. -/
def running : State :=
  { base with
    events := [.output (outputOf (decodeFrame #v[0x10, 0x20, 0x30, 0x00, 0x00, 0x00, 0x00])),
      .memRead 94 7 [0x10, 0x20, 0x30, 0x00, 0x00, 0x00, 0x00],
      .memWrite 94 (mergeFrame bufV11 presetA), .memRead 94 10 bufV11.toList] }

theorem running_inv : RunInv running :=
  ⟨.cycle #v[0x10, 0x20, 0x30, 0x00, 0x00, 0x00, 0x00] _ (.configured bufV11), fun h => absurd h (by decide), fun h => absurd h (by decide)⟩
theorem test_witness_StepKeepsTheRun : RunInv running ∧ (after (step running)).isSome = true :=
  ⟨running_inv, by decide⟩
/-- After one sample, and the next sample is the sixteenth only when fifteen were counted. -/
theorem test_witness_StepKeepsTheChannelLaidOut :
    ChannelOK { base with phase := 6, chan := { count := 1, rows := [.errorMarker, .sample 1 2 3 4, .header] } } ∧
    (after (step { base with phase := 6, chan := { count := 1, rows := [.errorMarker, .sample 1 2 3 4, .header] } })).isSome =
      true :=
  ⟨.marker (.headed _ _ _ _ .nil rfl), by decide⟩
theorem test_witness_PresentedValuesAreRepresentable : RunInv running ∧
    .output (.sample 256 512 768 0) ∈ running.events :=
  ⟨running_inv, by decide⟩
theorem test_witness_WritesKeepTheWireContract : RunInv running ∧
    .memWrite 94 (mergeFrame bufV11 presetA) ∈ running.events ∧ .memRead 94 10 bufV11.toList ∈ running.events ∧
    .memRead 94 7 [0x10, 0x20, 0x30, 0x00, 0x00, 0x00, 0x00] ∈ running.events ∧ presetWF running.par.preset = true :=
  ⟨running_inv, by decide⟩

end Sys2Proof.Tests
end

section
/-! SUPPORT. What each operation leaves in every field of the state, said once: the state it completes in, and with the
table of R21 of `10_state.md` the value it writes into each element of its row. -/

namespace Sys2Proof

open Sys2Proof.Machine

/-- How many bytes the next bus call moves; a call that never returns moves none. -/
def BusReply.moved : BusReply → Nat
  | .answers count => count
  | .stalls => 0

namespace Instr

/-- The state an operation completes in, if it completes (`exec_eq_next`). -/
def completed (s : State) : Instr → State
  | .rdfull => ((s.loadFull s.bus.moved).noteFullRead.drawn).goto 1
  | .merge => (s.setWbuf (mergeFrame s.rbuf s.par.preset)).goto 2
  | .wrcfg => (((s.storeConfig s.bus.moved).record (.memWrite s.par.devAddr s.wbuf)).drawn).goto 3
  | .wait => s.goto 4
  | .rdsmp => ((s.loadSample s.bus.moved).noteSampleRead.drawn).goto 5
  | .decode => (((((s.setX (channelX s.rbuf[0] s.rbuf[4])).setY (channelY s.rbuf[1] s.rbuf[4])).setZ
      (channelZ s.rbuf[2] s.rbuf[5])).setT (channelT s.rbuf[3] s.rbuf[6])).setValid (frameValid s.rbuf[3])).goto 6
  | .emit => (s.deliver s.presented).goto 3
  | .cfg0 => s.setWbuf (s.wbuf.set 0 cfgByte0)
  | .cfg1 => s.setWbuf (s.wbuf.set 1 (cfgByte1 s.rbuf[7] s.par.preset[1]))
  | .cfg2 => s.setWbuf (s.wbuf.set 2 (cfgByte2 s.rbuf[8] s.par.preset[2]))
  | .cfg3 => s.setWbuf (s.wbuf.set 3 (cfgByte3 s.rbuf[9] s.par.preset[3]))
  | .extx => s.setX (channelX s.rbuf[0] s.rbuf[4])
  | .exty => s.setY (channelY s.rbuf[1] s.rbuf[4])
  | .extz => s.setZ (channelZ s.rbuf[2] s.rbuf[5])
  | .extt => s.setT (channelT s.rbuf[3] s.rbuf[6])
  | .chkv => s.setValid (frameValid s.rbuf[3])

/-- The events an operation adds to the run (R109). -/
def notes (s : State) : Instr → List Event
  | .rdfull => [.memRead s.par.devAddr 10 (s.loadFull s.bus.moved).rbuf.toList]
  | .wrcfg => [.memWrite s.par.devAddr s.wbuf]
  | .rdsmp => [.memRead s.par.devAddr 7 (sampleFrame (s.loadSample s.bus.moved).rbuf).toList]
  | .emit => [.output s.presented]
  | _ => []

/-- What an operation puts into an element that its row writes. Only the phase depends on which operation it is: two
operations that write the same other element compute the same value for it. -/
def writeValue (i : Instr) (s : State) : Elem → Nat
  | .rbuf k => (s.busByte s.bus.moved k).toNat
  | .wbuf k => (mergeFrame s.rbuf s.par.preset)[k].toNat
  | .x => (channelX s.rbuf[0] s.rbuf[4]).toNat
  | .y => (channelY s.rbuf[1] s.rbuf[4]).toNat
  | .z => (channelZ s.rbuf[2] s.rbuf[5]).toNat
  | .t => (channelT s.rbuf[3] s.rbuf[6]).toNat
  | .valid => (frameValid s.rbuf[3]).toNat
  | .phase => (i.nextPhase.getD s.phase).toNat
  | .dw k => (s.storeConfig s.bus.moved).dw[k].toNat
  | e => s.elem e

end Instr

namespace Machine

variable {i : Instr} {s s' u : State}

/-- An operation that gives a next state gives the one it completes in. -/
theorem exec_eq_next (h : exec i s = .next u) : u = i.completed s := by
  cases i with
  | rdfull =>
    obtain ⟨count, hb, rfl⟩ := exec_rdfull_inv h
    simp [Instr.completed, hb, BusReply.moved]
  | wrcfg =>
    obtain ⟨count, hb, rfl⟩ := exec_wrcfg_inv h
    simp [Instr.completed, hb, BusReply.moved]
  | rdsmp =>
    obtain ⟨count, hb, rfl⟩ := exec_rdsmp_inv h
    simp [Instr.completed, hb, BusReply.moved]
  | chkv => rw [exec_chkv] at h; cases h; rfl
  | decode => rw [exec_decode] at h; cases h; rfl
  | merge | wait | emit | cfg0 | cfg1 | cfg2 | cfg3 | extx | exty | extz | extt => cases h; rfl

/-! ### What no operation touches -/

@[simp] theorem completed_sel : (i.completed s).sel = s.sel := by
  cases i <;> simp [Instr.completed]

@[simp] theorem completed_par : (i.completed s).par = s.par := by
  cases i <;> simp [Instr.completed]

@[simp] theorem completed_dr : (i.completed s).dr = s.dr := by
  cases i <;> simp [Instr.completed]

@[simp] theorem completed_bus : (i.completed s).bus = s.bus := by
  cases i <;> simp [Instr.completed]

@[simp] theorem completed_resetIn : (i.completed s).resetIn = s.resetIn := by
  cases i <;> simp [Instr.completed]

/-- A step, under reset or of an operation, keeps the parameters. -/
theorem step_par (h : step s = .next u) : u.par = s.par := by
  obtain ⟨-, rfl⟩ | ⟨-, i, v, -, hv, rfl⟩ := step_eq_next h
  · rfl
  · obtain rfl := exec_eq_next hv
    rw [State.advance_par, completed_par]

/-! ### What one or few operations touch -/

theorem completed_chan (h : i ≠ .emit) : (i.completed s).chan = s.chan := by
  cases i with
  | emit => exact absurd rfl h
  | _ => simp [Instr.completed]

theorem completed_draws (hf : i ≠ .rdfull) (hw : i ≠ .wrcfg) (hs : i ≠ .rdsmp) :
    (i.completed s).draws = s.draws := by
  cases i with
  | rdfull => exact absurd rfl hf
  | wrcfg => exact absurd rfl hw
  | rdsmp => exact absurd rfl hs
  | _ => rfl

theorem completed_dw : (i.completed s).dw = if i = .wrcfg then (s.storeConfig s.bus.moved).dw else s.dw := by
  cases i <;> rfl

theorem completed_events : (i.completed s).events = i.notes s ++ s.events := by
  cases i <;> simp [Instr.completed, Instr.notes]

theorem notes_eq_nil (hf : i ≠ .rdfull) (hw : i ≠ .wrcfg) (hs : i ≠ .rdsmp) (he : i ≠ .emit) :
    i.notes s = [] := by
  cases i with
  | rdfull => exact absurd rfl hf
  | wrcfg => exact absurd rfl hw
  | rdsmp => exact absurd rfl hs
  | emit => exact absurd rfl he
  | _ => rfl

/-! ### What an operation leaves in each element of the table -/

theorem completed_rbuf (k : Fin 10) :
    (i.completed s).rbuf[k] = if i.writes (.rbuf k) then s.busByte s.bus.moved k else s.rbuf[k] := by
  cases i with
  | rdfull => exact loadFull_rbuf _ k
  | rdsmp =>
    have heq : (Instr.rdsmp.completed s).rbuf = (s.loadSample s.bus.moved).rbuf := rfl
    by_cases hk : k.val < 7
    · rw [heq, loadSample_rbuf_low _ k hk]; simp [Instr.writes, hk]
    · rw [heq, loadSample_rbuf_high _ k (by omega)]; simp [Instr.writes, hk]
  | _ => simp [Instr.completed, Instr.writes]

/-- CFG0 to CFG3 each write the byte that MERGE writes there (R76). -/
theorem completed_wbuf (k : Fin 4) : (i.completed s).wbuf[k] =
    if i.writes (.wbuf k) then (mergeFrame s.rbuf s.par.preset)[k] else s.wbuf[k] := by
  cases i with
  | cfg0 | cfg1 | cfg2 | cfg3 => fin_cases k <;> simp [Instr.completed, Instr.writes, mergeFrame]
  | _ => simp [Instr.completed, Instr.writes]

theorem completed_x :
    (i.completed s).x = if i.writes .x then channelX s.rbuf[0] s.rbuf[4] else s.x := by
  cases i <;> simp [Instr.completed, Instr.writes]

theorem completed_y :
    (i.completed s).y = if i.writes .y then channelY s.rbuf[1] s.rbuf[4] else s.y := by
  cases i <;> simp [Instr.completed, Instr.writes]

theorem completed_z :
    (i.completed s).z = if i.writes .z then channelZ s.rbuf[2] s.rbuf[5] else s.z := by
  cases i <;> simp [Instr.completed, Instr.writes]

theorem completed_t :
    (i.completed s).t = if i.writes .t then channelT s.rbuf[3] s.rbuf[6] else s.t := by
  cases i <;> simp [Instr.completed, Instr.writes]

theorem completed_valid :
    (i.completed s).valid = if i.writes .valid then frameValid s.rbuf[3] else s.valid := by
  cases i <;> simp [Instr.completed, Instr.writes]

theorem completed_phase : (i.completed s).phase = i.nextPhase.getD s.phase := by
  cases i <;> simp [Instr.completed, Instr.nextPhase]

theorem writes_phase : i.writes .phase = i.nextPhase.isSome := by
  cases i <;> rfl

theorem writes_dw (k : Fin 4) : i.writes (.dw k) = true ↔ i = .wrcfg := by
  cases i <;> simp [Instr.writes]

/-- An operation leaves in every element the value it writes there, or the element as it was. -/
theorem completed_elem (e : Elem) :
    (i.completed s).elem e = if i.writes e then i.writeValue s e else s.elem e := by
  cases e with
  | rbuf | wbuf | x | y | z | t | valid =>
    simp only [State.elem, Instr.writeValue, completed_rbuf, completed_wbuf, completed_x, completed_y, completed_z,
      completed_t, completed_valid]
    split <;> rfl
  | phase =>
    rw [writes_phase]
    cases hp : i.nextPhase <;> simp [State.elem, completed_phase, Instr.writeValue, hp]
  | dw k =>
    by_cases hw : i = .wrcfg <;> simp [State.elem, completed_dw, Instr.writeValue, writes_dw, hw]
  | preset k | devAddr | delay | dr k => simp [State.elem, Instr.writeValue]

/-! ### What an operation reads -/

/-- Two states look the same to an operation: the elements that its row reads, the transport's answer and the draw. -/
structure SameView (i : Instr) (s s' : State) : Prop where
  bus : s.bus = s'.bus
  draws : s.draws = s'.draws
  elem : ∀ e : Elem, i.reads e = true → s.elem e = s'.elem e

namespace SameView

theorem rbuf (h : SameView i s s') (k : Fin 10) (hr : i.reads (.rbuf k) = true) : s.rbuf[k] = s'.rbuf[k] :=
  BitVec.eq_of_toNat_eq (h.elem (.rbuf k) hr)

theorem wbuf (h : SameView i s s') (k : Fin 4) (hr : i.reads (.wbuf k) = true) : s.wbuf[k] = s'.wbuf[k] :=
  BitVec.eq_of_toNat_eq (h.elem (.wbuf k) hr)

theorem preset (h : SameView i s s') (k : Fin 4) (hr : i.reads (.preset k) = true) :
    s.par.preset[k] = s'.par.preset[k] :=
  BitVec.eq_of_toNat_eq (h.elem (.preset k) hr)

theorem busByte (h : SameView i s s') (k : Fin 10) (hr : i.reads (.dr k) = true) :
    s.busByte s.bus.moved k = s'.busByte s'.bus.moved k := by
  have hk : s.dr[k] = s'.dr[k] := BitVec.eq_of_toNat_eq (h.elem (.dr k) hr)
  simp only [State.busByte, h.bus, h.draws, hk]

end SameView

/-! ### An operation that writes an element reads what the value is computed from -/

theorem reads_of_writes_rbuf {k : Fin 10} (h : i.writes (.rbuf k) = true) : i.reads (.dr k) = true := by
  cases i <;> simp_all [Instr.reads, Instr.writes]

theorem reads_of_writes_wbuf {k : Fin 4} (h : i.writes (.wbuf k) = true) :
    k = 0 ∨ i.reads (.preset k) = true ∧ i.reads (.rbuf (k.natAdd 6)) = true := by
  cases i with
  | merge | cfg0 | cfg1 | cfg2 | cfg3 => revert k; decide
  | _ => simp [Instr.writes] at h

theorem reads_of_writes_dw {k : Fin 4} (h : i.writes (.dw k) = true) : i.reads (.wbuf k) = true := by
  rw [(writes_dw k).1 h]; rfl

theorem reads_of_writes_x (h : i.writes .x = true) : i.reads (.rbuf 0) = true ∧ i.reads (.rbuf 4) = true := by
  cases i <;> simp_all [Instr.reads, Instr.writes]

theorem reads_of_writes_y (h : i.writes .y = true) : i.reads (.rbuf 1) = true ∧ i.reads (.rbuf 4) = true := by
  cases i <;> simp_all [Instr.reads, Instr.writes]

theorem reads_of_writes_z (h : i.writes .z = true) : i.reads (.rbuf 2) = true ∧ i.reads (.rbuf 5) = true := by
  cases i <;> simp_all [Instr.reads, Instr.writes]

theorem reads_of_writes_t (h : i.writes .t = true) : i.reads (.rbuf 3) = true ∧ i.reads (.rbuf 6) = true := by
  cases i <;> simp_all [Instr.reads, Instr.writes]

theorem reads_of_writes_valid (h : i.writes .valid = true) : i.reads (.rbuf 3) = true := by
  cases i <;> simp_all [Instr.reads, Instr.writes]

/-- Byte `k` of the ConfigFrame depends on byte `k` of the preset and position `6 + k` of the receive buffer alone, and
byte 0 on nothing. -/
theorem mergeFrame_congr {raw raw' : Vector Byte 10} {P P' : Vector Byte 4} (k : Fin 4)
    (h : k = 0 ∨ P[k] = P'[k] ∧ raw[k.natAdd 6] = raw'[k.natAdd 6]) :
    (mergeFrame raw P)[k] = (mergeFrame raw' P')[k] := by
  fin_cases k <;> simp_all [mergeFrame]

theorem storeConfig_dw (count : Nat) (k : Fin 4) : (s.storeConfig count).dw[k] =
    if 4 ≤ count then s.wbuf[k] else Config.unknownWrite s.draws k := by
  unfold State.storeConfig
  split
  · rfl
  · fin_cases k <;> rfl

/-- What an operation writes depends on what its row reads alone. -/
theorem SameView.writeValue_eq (h : SameView i s s') (e : Elem) (hw : i.writes e = true) :
    i.writeValue s e = i.writeValue s' e := by
  cases e with
  | rbuf k => simp only [Instr.writeValue, h.busByte k (reads_of_writes_rbuf hw)]
  | wbuf k =>
    have hk := mergeFrame_congr (raw := s.rbuf) (raw' := s'.rbuf) k
      ((reads_of_writes_wbuf hw).imp_right fun ⟨hp, hr⟩ => ⟨h.preset k hp, h.rbuf _ hr⟩)
    simp only [Instr.writeValue, hk]
  | x =>
    obtain ⟨r0, r4⟩ := reads_of_writes_x hw
    exact congrArg BitVec.toNat (congrArg₂ channelX (h.rbuf 0 r0) (h.rbuf 4 r4))
  | y =>
    obtain ⟨r1, r4⟩ := reads_of_writes_y hw
    exact congrArg BitVec.toNat (congrArg₂ channelY (h.rbuf 1 r1) (h.rbuf 4 r4))
  | z =>
    obtain ⟨r2, r5⟩ := reads_of_writes_z hw
    exact congrArg BitVec.toNat (congrArg₂ channelZ (h.rbuf 2 r2) (h.rbuf 5 r5))
  | t =>
    obtain ⟨r3, r6⟩ := reads_of_writes_t hw
    exact congrArg BitVec.toNat (congrArg₂ channelT (h.rbuf 3 r3) (h.rbuf 6 r6))
  | valid => exact congrArg (fun b => (frameValid b).toNat) (h.rbuf 3 (reads_of_writes_valid hw))
  | phase =>
    obtain ⟨p, hp⟩ := Option.isSome_iff_exists.1 (writes_phase (i := i) ▸ hw)
    simp [Instr.writeValue, hp]
  | dw k =>
    simp only [Instr.writeValue, storeConfig_dw, h.bus, h.draws, h.wbuf k (reads_of_writes_dw hw)]
  | preset | devAddr | delay | dr => cases i <;> simp [Instr.writes] at hw

/-- The events an operation adds depend on what its row reads alone. -/
theorem SameView.notes_eq (h : SameView i s s') : i.notes s = i.notes s' := by
  cases i with
  | rdfull =>
    have haddr : s.par.devAddr = s'.par.devAddr := h.elem .devAddr rfl
    have hbytes : (s.loadFull s.bus.moved).rbuf = (s'.loadFull s'.bus.moved).rbuf := by
      simp [State.loadFull, fun k => h.busByte k rfl]
    simp only [Instr.notes, haddr, hbytes]
  | rdsmp =>
    have haddr : s.par.devAddr = s'.par.devAddr := h.elem .devAddr rfl
    have hbytes : sampleFrame (s.loadSample s.bus.moved).rbuf = sampleFrame (s'.loadSample s'.bus.moved).rbuf := by
      simp [sampleFrame, State.loadSample, h.busByte, Instr.reads]
    simp only [Instr.notes, haddr, hbytes]
  | wrcfg =>
    have haddr : s.par.devAddr = s'.par.devAddr := h.elem .devAddr rfl
    have hframe : s.wbuf = s'.wbuf := Vector.ext fun k hk => h.wbuf ⟨k, hk⟩ rfl
    simp only [Instr.notes, haddr, hframe]
  | emit =>
    have hout : s.presented = s'.presented :=
      presented_congr (BitVec.eq_of_toNat_eq (h.elem .x rfl)) (BitVec.eq_of_toNat_eq (h.elem .y rfl))
        (BitVec.eq_of_toNat_eq (h.elem .z rfl)) (BitVec.eq_of_toNat_eq (h.elem .t rfl))
        (Function.LeftInverse.injective Bool.ofNat_toNat (h.elem .valid rfl))
    simp only [Instr.notes, hout]
  | merge | wait | decode | cfg0 | cfg1 | cfg2 | cfg3 | extx | exty | extz | extt | chkv => rfl

end Machine
end Sys2Proof
end

section
/-! PROOF. The statements of `10_state.md` about every operation: its row of the table, the surroundings, the
parameters. -/

open Sys2Proof Sys2Proof.Machine

/-- Settles O39: an element outside the row keeps its value (`completed_elem`), and what the row writes or notes is
computed from what it reads (`SameView.writeValue_eq`, `SameView.notes_eq`). -/
theorem operationsKeepToTheirRow : Obligations.OperationsKeepToTheirRow := by
  refine ⟨fun i s u h => ?_, fun i s s' u u' h h' hbus hdraws hreads => ?_, fun i => ?_⟩
  · obtain rfl := exec_eq_next h
    exact ⟨fun e he => by simp [completed_elem, he], completed_chan⟩
  · obtain rfl := exec_eq_next h
    obtain rfl := exec_eq_next h'
    have view : SameView i s s' := ⟨hbus, hdraws, hreads⟩
    refine ⟨fun e he => by simp [completed_elem, he, view.writeValue_eq e he], i.notes s, completed_events, ?_⟩
    rw [view.notes_eq, completed_events]
  · cases i <;> rfl

/-- Settles O40: each field of the completed state, by its own lemma. -/
theorem operationsLeaveTheSurroundings : Obligations.OperationsLeaveTheSurroundings := by
  intro i s u h
  obtain rfl := exec_eq_next h
  exact ⟨completed_sel, completed_par, completed_dr, completed_bus, completed_resetIn,
    fun hw => by simp [completed_dw, hw], completed_draws,
    fun hf hw hs he => by simp [completed_events, notes_eq_nil hf hw hs he]⟩

/-- Settles O41: an operation keeps the parameters, hence so does a step. -/
theorem parametersNeverChange : Obligations.ParametersNeverChange := by
  refine ⟨fun i s u h => ?_, fun s u h => ⟨step_par h, fun hadm => by rwa [step_par h]⟩⟩
  rw [exec_eq_next h, completed_par]

end

section
/-! SUPPORT. The Configurator's bytes: the masked merge `(raw &&& mask) ||| p` of R73 and R75 of `40_configurator.md`,
for words of every width; what a well-formed preset is (R71); the byte that CFG1 and CFG3 leave in the transmit buffer. -/

namespace Sys2Proof

section MaskedMerge

variable {w : Nat} {mask other p : BitVec w} (raw : BitVec w)

/-- On the mask the merge is the register, when the preset is clear there: calibration is kept. -/
theorem maskedMerge_and_mask (h : p &&& mask = 0#w) : ((raw &&& mask) ||| p) &&& mask = raw &&& mask := by
  rw [BitVec.and_or_distrib_right, h, BitVec.or_zero, BitVec.and_assoc, BitVec.and_self]

/-- Off the mask the merge is the preset: no bit of the register reaches it. -/
theorem maskedMerge_and_of_disjoint (h : mask &&& other = 0#w) : ((raw &&& mask) ||| p) &&& other = p &&& other := by
  rw [BitVec.and_or_distrib_right, BitVec.and_assoc, h, BitVec.and_zero, BitVec.zero_or]

/-- Every 1 of the preset is in the merge, on the mask too. -/
theorem maskedMerge_and_preset : ((raw &&& mask) ||| p) &&& p = p := by
  ext k hk
  by_cases hp : p[k] <;> simp [hp]

/-- The corner cases of R73 and R75, for a mask and the bits off it. -/
theorem maskedMerge_corners (hdisj : mask &&& other = 0#w) :
    (p &&& mask = 0#w → ((raw &&& mask) ||| p) &&& mask = raw &&& mask ∧
      ((raw &&& mask) ||| p) &&& other = p &&& other) ∧
    ((raw &&& mask) ||| p) &&& p = p ∧
    (raw = 0#w → (raw &&& mask) ||| p = p) ∧
    (raw = BitVec.allOnes w → (raw &&& mask) ||| p = mask ||| p) := by
  refine ⟨fun hcal => ⟨maskedMerge_and_mask raw hcal, maskedMerge_and_of_disjoint raw hdisj⟩,
    maskedMerge_and_preset raw, fun hzero => ?_, fun hones => ?_⟩
  · rw [hzero, BitVec.zero_and, BitVec.zero_or]
  · rw [hones, BitVec.allOnes_and]

end MaskedMerge

theorem presetWF_iff {P : Vector Byte 4} : presetWF P = true ↔
    P[0] = 0x00#8 ∧ P[1] &&& 0x78#8 = 0x00#8 ∧ P[2] = 0x00#8 ∧ P[3] &&& 0x0F#8 = 0x00#8 := by
  simp [presetWF, and_assoc]

namespace Machine

variable {s u : State}

theorem wbuf_of_exec_cfg1 (h : exec .cfg1 s = .next u) :
    u.wbuf[1] = (s.rbuf[7] &&& 0x78#8) ||| s.par.preset[1] := by
  rw [exec_cfg1] at h
  cases h
  simp [cfgByte1]

theorem wbuf_of_exec_cfg3 (h : exec .cfg3 s = .next u) :
    u.wbuf[3] = (s.rbuf[9] &&& 0x0F#8) ||| s.par.preset[3] := by
  rw [exec_cfg3] at h
  cases h
  simp [cfgByte3]

end Machine
end Sys2Proof
end

section
/-! PROOF. The field operations of the Configurator (`40_configurator.md` R72 to R75). -/

open Sys2Proof Sys2Proof.Machine

/-- Settles O8: the byte CFG1 leaves is a masked merge, so the corner cases are its bitwise laws on the mask 0x78. -/
theorem cfg1MergesRegisterSeven : Obligations.Cfg1MergesRegisterSeven := by
  refine ⟨rfl, fun s => ⟨exec_cfg1, fun u h => ?_⟩⟩
  have hdisj : 0x78#8 &&& 0x87#8 = 0x00#8 := by decide
  rw [wbuf_of_exec_cfg1 h]
  refine (maskedMerge_corners _ hdisj).imp_left fun keeps hwf => ?_
  obtain ⟨-, hcal, -, -⟩ := presetWF_iff.1 hwf
  exact keeps hcal

/-- Settles O10: the byte CFG3 leaves is a masked merge, so the corner cases are its bitwise laws on the mask 0x0F. -/
theorem cfg3MergesRegisterNine : Obligations.Cfg3MergesRegisterNine := by
  refine ⟨rfl, fun s => ⟨exec_cfg3, fun u h => ?_⟩⟩
  have hdisj : 0x0F#8 &&& 0xF0#8 = 0x00#8 := by decide
  rw [wbuf_of_exec_cfg3 h]
  refine (maskedMerge_corners _ hdisj).imp_left fun keeps hwf => ?_
  obtain ⟨-, -, -, hcal⟩ := presetWF_iff.1 hwf
  exact keeps hcal

/-- Settles O7: the equation of CFG0, whose byte is the constant zero. -/
theorem cfg0WritesZero : Obligations.Cfg0WritesZero :=
  ⟨rfl, fun _ => exec_cfg0⟩

/-- Settles O9: the equation of CFG2; a well-formed preset is zero in byte 2, where the OR then changes nothing. -/
theorem cfg2CopiesRegisterEight : Obligations.Cfg2CopiesRegisterEight := by
  refine ⟨rfl, fun s => ⟨exec_cfg2, fun hwf => ?_⟩⟩
  obtain ⟨-, -, hzero, -⟩ := presetWF_iff.1 hwf
  rw [exec_cfg2, cfgByte2, hzero, BitVec.or_zero, State.setWbuf]

end

section
/-! SUPPORT. The SampleDecoder's patterns (`41_sample_decoder.md` R80 to R88) in the spec's notation: every mask and shift
is a slice of a byte or a concatenation of slices, so each channel is a concatenation. -/

namespace Sys2Proof.Machine

/-! ### Slices of a byte -/

theorem highNibble_eq_slice (b : Byte) : highNibble b = b.extractLsb' 4 4 := by
  have hb := b.isLt
  apply BitVec.eq_of_toNat_eq
  rw [highNibble_toNat, BitVec.extractLsb'_toNat, Nat.shiftRight_eq_div_pow]
  omega

theorem lowNibble_eq_slice (b : Byte) : lowNibble b = b.extractLsb' 0 4 := by
  apply BitVec.eq_of_toNat_eq
  rw [lowNibble_toNat, BitVec.extractLsb'_toNat, Nat.shiftRight_zero]

/-- The mask that EXTT puts on its high byte keeps the upper nibble and clears the lower one. -/
theorem and_highMask_eq_append (b : Byte) : b &&& 0xF0#8 = b.extractLsb' 4 4 ++ 0b0000#4 := by
  have hsplit : b.extractLsb' 4 4 ++ b.extractLsb' 0 4 = b := BitVec.extractLsb'_append_extractLsb'
  have hmask : 0xF0#8 = BitVec.allOnes 4 ++ 0b0000#4 := by decide
  calc b &&& 0xF0#8
      = (b.extractLsb' 4 4 ++ b.extractLsb' 0 4) &&& (BitVec.allOnes 4 ++ 0b0000#4) := by rw [hsplit, hmask]
    _ = b.extractLsb' 4 4 ++ 0b0000#4 := by rw [BitVec.and_append, BitVec.and_allOnes, BitVec.and_zero]

/-- The mask of STATUS (R59) keeps bits 1:0 and clears the six above. -/
theorem and_statusMask_eq_append (b : Byte) : b &&& 0x03#8 = 0#6 ++ b.extractLsb' 0 2 := by
  have hsplit : b.extractLsb' 2 6 ++ b.extractLsb' 0 2 = b := BitVec.extractLsb'_append_extractLsb'
  have hmask : 0x03#8 = 0#6 ++ BitVec.allOnes 2 := by decide
  calc b &&& 0x03#8
      = (b.extractLsb' 2 6 ++ b.extractLsb' 0 2) &&& (0#6 ++ BitVec.allOnes 2) := by rw [hsplit, hmask]
    _ = 0#6 ++ b.extractLsb' 0 2 := by rw [BitVec.and_append, BitVec.and_zero, BitVec.and_allOnes]

/-- STATUS is clear exactly when its two bits are. -/
theorem frameValid_eq_decide (b : Byte) : frameValid b = decide (b.extractLsb' 0 2 = 0#2) := by
  have hzero : 0x00#8 = 0#6 ++ 0#2 := by decide
  rw [Bool.eq_iff_iff, frameValid_iff, and_statusMask_eq_append, hzero, BitVec.append_right_inj, decide_eq_true_iff]

/-! ### The assembly and the signed reading -/

theorem asm12_toNat (H : Byte) (N : Nibble) : (asm12 H N).toNat = 16 * H.toNat + N.toNat := by
  rw [asm12_eq_append, BitVec.toNat_append, ← Nat.shiftLeft_add_eq_or_of_lt N.isLt, Nat.shiftLeft_eq, Nat.mul_comm]

/-- The high byte and the nibble of a pattern assemble to it. -/
theorem asm12_slices (r : Word12) : asm12 (r.extractLsb' 4 8) (r.extractLsb' 0 4) = r := by
  rw [asm12_eq_append]
  exact BitVec.extractLsb'_append_extractLsb'

/-- The sign of a pattern is its bit 11. -/
theorem s12_eq_sub_sign (r : Word12) : s12 r = r.toNat - 4096 * (r.getLsbD 11).toNat := by
  have hsign : r.getLsbD 11 = decide (2048 ≤ r.toNat) := r.msb_eq_getLsbD_last.symm.trans r.msb_eq_decide
  rw [s12, hsign]
  by_cases h : 2048 ≤ r.toNat
  · simp [h, Nat.not_lt.2 h]
  · simp [h, Nat.lt_of_not_le h]

/-! ### The channels -/

theorem channelX_eq_append (f0 f4 : Byte) : channelX f0 f4 = f0 ++ f4.extractLsb' 4 4 := by
  rw [channelX, asm12_eq_append, highNibble_eq_slice]

theorem channelY_eq_append (f1 f4 : Byte) : channelY f1 f4 = f1 ++ f4.extractLsb' 0 4 := by
  rw [channelY, asm12_eq_append, lowNibble_eq_slice]

theorem channelZ_eq_append (f2 f5 : Byte) : channelZ f2 f5 = f2 ++ f5.extractLsb' 0 4 := by
  rw [channelZ, asm12_eq_append, lowNibble_eq_slice]

theorem channelT_eq_append (f3 f6 : Byte) :
    channelT f3 f6 = f3.extractLsb' 4 4 ++ 0b0000#4 ++ f6.extractLsb' 0 4 := by
  rw [channelT, asm12_eq_append, lowNibble_eq_slice, and_highMask_eq_append]

end Sys2Proof.Machine
end

section
/-! PROOF. The assembly, the signed reading and the field operations of the SampleDecoder (`41_sample_decoder.md` R80,
R81, R83 to R86, R88). -/

open Sys2Proof Sys2Proof.Machine

/-- Settles O13: assembly is a concatenation, so its two slices give the parts back, and every pattern is the assembly
of its slices. -/
theorem assemblyIsConcatenation : Obligations.AssemblyIsConcatenation := by
  refine ⟨fun H N => ⟨rfl, asm12_eq_append H N, asm12_toNat H N, ?_, ?_⟩, fun r => ⟨_, _, asm12_slices r⟩⟩
  · rw [asm12_eq_append, BitVec.extractLsb'_append_eq_left]
  · rw [asm12_eq_append, BitVec.extractLsb'_append_eq_right]

/-- Settles O14: the reading is the two's-complement value, whose bounds are the library's. -/
theorem signedReadingOfTwelveBits : Obligations.SignedReadingOfTwelveBits := by
  refine ⟨fun r => ⟨rfl, ?_, ?_, s12_eq_sub_sign r, s12_eq_toInt r⟩, fun _ => presented_valid⟩
  · rw [s12_eq_toInt]
    exact r.le_toInt
  · rw [s12_eq_toInt]
    exact BitVec.toInt_le

/-- Settles O16: the equation of EXTX with its pattern as a concatenation, evaluated at the two boundary inputs. -/
theorem extxTakesTheUpperNibble : Obligations.ExtxTakesTheUpperNibble := by
  refine ⟨rfl, fun s => ?_⟩
  have hexec : exec .extx s = .next { s with x := s.rbuf[0] ++ s.rbuf[4].extractLsb' 4 4 } := by
    rw [exec_extx, channelX_eq_append, State.setX]
  refine ⟨hexec, fun u h => ?_⟩
  have hx : u.x = s.rbuf[0] ++ s.rbuf[4].extractLsb' 4 4 := by
    rw [hexec] at h
    cases h
    rfl
  refine ⟨fun hbyte hnibble => ?_, fun hbyte hnibble => ?_⟩
  · rw [hx, hbyte, hnibble]
    decide
  · rw [hx, hbyte, hnibble]
    decide

/-- Settles O17: the equation of EXTY, its pattern a concatenation. -/
theorem extyTakesTheLowerNibble : Obligations.ExtyTakesTheLowerNibble :=
  ⟨rfl, fun _ => by rw [exec_exty, channelY_eq_append, State.setY]⟩

/-- Settles O18: the equation of EXTZ, its pattern a concatenation. -/
theorem extzTakesTheLowerNibble : Obligations.ExtzTakesTheLowerNibble :=
  ⟨rfl, fun _ => by rw [exec_extz, channelZ_eq_append, State.setZ]⟩

/-- Settles O19: the equation of EXTT; the mask on the high byte leaves the zeros in the middle. -/
theorem exttForcesTheMiddleBitsToZero : Obligations.ExttForcesTheMiddleBitsToZero :=
  ⟨rfl, fun _ => by rw [exec_extt, channelT_eq_append, State.setT]⟩

/-- Settles O21: the equation of CHKV, whose flag is the test of R88 on the mask and on the slice alike. -/
theorem chkvTestsTheStatusBits : Obligations.ChkvTestsTheStatusBits := by
  refine ⟨rfl, fun s => ⟨?_, fun hclear => ?_, fun hset => ?_⟩⟩
  · rw [exec_chkv, frameValid_eq_decide, State.setValid]
  · rw [exec_chkv, (frameValid_iff _).2 hclear, State.setValid]
  · rw [exec_chkv, Bool.eq_false_iff.2 (mt (frameValid_iff _).1 hset), State.setValid]

end

section
/-! SUPPORT. The sequencer's successor (`42_sequencer_and_bus.md` R108): what a phase code decodes to, the phase its
operation writes, and where a step with reset released and no select code issued leads. -/

namespace Sys2Proof

variable {i : Instr} {p : BitVec 3}

/-- A phase code that decodes is the code of its operation (R56). -/
theorem encode_of_decode_p (h : decode (.p p) = .ok i) : encode i = .p p := by
  change decodePhase p = .ok i at h
  unfold decodePhase at h
  split at h
  case h_8 => cases h
  all_goals
    next hp =>
      cases h
      exact congrArg Code.p (BitVec.eq_of_toNat_eq hp.symm)

theorem ne_seven_of_decode_p (h : decode (.p p) = .ok i) : p ≠ 7#3 := by
  rintro rfl
  cases h

/-- The table of R108 runs through 0, 1, 2 once and then round the cycle 3, 4, 5, 6. -/
theorem nextPhase_of_encode_p (h : encode i = .p p) : i.nextPhase = some (if p = 6#3 then 3#3 else p + 1#3) := by
  cases i with
  | rdfull | merge | wrcfg | wait | rdsmp | decode | emit => cases h; rfl
  | cfg0 | cfg1 | cfg2 | cfg3 | extx | exty | extz | extt | chkv => cases h

theorem nextPhase_of_decode_p (h : decode (.p p) = .ok i) : i.nextPhase = some (if p = 6#3 then 3#3 else p + 1#3) :=
  nextPhase_of_encode_p (encode_of_decode_p h)

theorem nextPhase_ne_seven : i.nextPhase ≠ some 7#3 := by
  cases i <;> decide

namespace Machine

variable {s u : State}

theorem exec_phase (h : exec i s = .next u) : u.phase = i.nextPhase.getD s.phase := by
  rw [exec_eq_next h, completed_phase]

/-- With no select code issued the next operation is that of the phase (R15). -/
theorem nextCode_of_sel_none (h : s.sel = none) : s.nextCode = .p s.phase := by
  rw [State.nextCode, h]

/-- A step with reset released and no select code issued runs the operation of the phase and ends in the phase it
writes. -/
theorem step_phase (hr : s.resetIn = false) (hs : s.sel = none) (h : step s = .next u) :
    ∃ i, decode (.p s.phase) = .ok i ∧ i.nextPhase = some u.phase := by
  obtain ⟨hreset, -⟩ | ⟨-, i, v, hi, hv, rfl⟩ := step_eq_next h
  · rw [hr] at hreset
    cases hreset
  · rw [nextCode_of_sel_none hs] at hi
    refine ⟨i, hi, ?_⟩
    rw [State.advance_phase, exec_phase hv, nextPhase_of_decode_p hi, Option.getD_some]

end Machine
end Sys2Proof
end

section
/-! PROOF. The successor of an operation and of a step (`42_sequencer_and_bus.md` R108). -/

open Sys2Proof Sys2Proof.Machine

/-- Settles O35: an operation writes the constant of its row (`exec_phase`), the row of a phase code is its successor
(`nextPhase_of_decode_p`), and a step runs the operation of the phase (`step_phase`); phase 7 decodes to none and is in
no row. -/
theorem successorNeverDependsOnData : Obligations.SuccessorNeverDependsOnData := by
  refine ⟨fun _ _ _ => exec_phase, fun _ _ => nextPhase_of_decode_p, fun s u hr hs h => ?_⟩
  obtain ⟨i, hi, hnext⟩ := step_phase hr hs h
  refine ⟨?_, ne_seven_of_decode_p hi, fun hu => ?_⟩
  · exact Option.some.inj (hnext.symm.trans (nextPhase_of_decode_p hi))
  · rw [hu] at hnext
    exact nextPhase_ne_seven hnext

end

section
/-! SUPPORT. A step through the operation of the phase, and what a device answers between steps
(`42_sequencer_and_bus.md` R100, `70_reset_and_hazards.md` R145): every step ends with the surroundings' turn, and a full
sample read returns the registers the device shows. -/

namespace Sys2Proof.Machine

variable {s u v : State} {i : Instr}

/-- With reset released and no select code issued, the operation of the phase runs and then the surroundings have their
turn. -/
theorem step_eq_of_decode_p (hr : s.resetIn = false) (hs : s.sel = none) (hi : decode (.p s.phase) = .ok i)
    (hv : exec i s = .next v) : step s = .next v.advance := by
  have hfetch : s.fetch = .ok i := by rw [State.fetch, nextCode_of_sel_none hs, hi]
  simp [step, hr, hfetch, hv, afterNext]

/-- Every step, under reset or of an operation, ends with the surroundings' turn. -/
theorem eq_advance_of_step (h : step s = .next u) : ∃ v : State, u = v.advance := by
  obtain ⟨-, rfl⟩ | ⟨-, _, v, -, -, rfl⟩ := step_eq_next h
  · exact ⟨_, rfl⟩
  · exact ⟨v, rfl⟩

/-- A sample read that is answered in full returns the device's registers. -/
theorem loadSample_rbuf_full {count : Nat} (hcount : 7 ≤ count) {k : Fin 10} (hk : k.val < 7) :
    (s.loadSample count).rbuf[k] = s.dr[k] := by
  rw [loadSample_rbuf_low count k hk, busByte_delivered (hk.trans_le hcount)]

/-- An answered WRCFG in a step: phase 3 comes next, the write and the surroundings use up a draw each, and DW is what
`storeConfig_dw` says. -/
theorem step_wrcfg {count : Nat} (hr : s.resetIn = false) (hs : s.sel = none) (hp : s.phase = 2#3)
    (hb : s.bus = .answers count) :
    ∃ u, step s = .next u ∧ u.resetIn = false ∧ u.sel = none ∧ u.phase = 3#3 ∧ u.draws = s.draws + 2 ∧
      ∀ k : Fin 4, u.dw[k] = if 4 ≤ count then s.wbuf[k] else Config.unknownWrite s.draws k := by
  refine ⟨_, step_eq_of_decode_p hr hs (by rw [hp]; rfl) (exec_wrcfg hb), ?_, rfl, rfl, ?_, storeConfig_dw count⟩
  · simp [hr]
  · simp

/-- WAIT in a step. -/
theorem step_wait (hr : s.resetIn = false) (hs : s.sel = none) (hp : s.phase = 3#3) :
    step s = .next (s.goto 4).advance :=
  step_eq_of_decode_p hr hs (by rw [hp]; rfl) exec_wait

/-- RDSMP in a step: an answered read. -/
theorem step_rdsmp {count : Nat} (hr : s.resetIn = false) (hs : s.sel = none) (hp : s.phase = 4#3)
    (hb : s.bus = .answers count) : step s = .next (((s.loadSample count).noteSampleRead.drawn).goto 5).advance :=
  step_eq_of_decode_p hr hs (by rw [hp]; rfl) (exec_rdsmp hb)

end Sys2Proof.Machine
end

section
/-! PROOF. The configuration hazard (`70_reset_and_hazards.md` R145). -/

open Sys2Proof Sys2Proof.Machine

/-- Settles O49: every step ends with the surroundings' turn, which sets DR from DW (`advance_dr`). WAIT leaves the DW
that WRCFG left (`step_wrcfg`), so the turn after WAIT makes DR of it, and a full RDSMP returns that DR
(`loadSample_rbuf_full`). -/
theorem laterReadsDependOnTheConfiguration : Obligations.LaterReadsDependOnTheConfiguration := by
  refine ⟨fun s u h => ?_, fun s count count' hr hs hp hb hcount => ?_⟩
  · obtain ⟨v, rfl⟩ := eq_advance_of_step h
    exact ⟨v.draws, rfl, advance_dr⟩
  · obtain ⟨u₁, hwrite, hr₁, hs₁, hp₁, hdraws₁, hdw₁⟩ := step_wrcfg hr hs hp hb
    have hwait : step u₁ = .next (u₁.goto 4).advance := step_wait hr₁ hs₁ hp₁
    refine ⟨u₁, _, _, hwrite, hwait, step_rdsmp hr₁ rfl rfl rfl, hp₁, rfl, rfl, hdw₁, rfl, rfl, fun k hk => ?_⟩
    calc _ = (u₁.goto 4).advance.dr[k] := loadSample_rbuf_full hcount hk
      _ = Config.liveByte u₁.dw u₁.draws k := advance_dr k
      _ = Config.liveByte u₁.dw (s.draws + 2) k := by rw [hdraws₁]

end

section
/-! SUPPORT. Codes and table words (`30_encoding.md` sections 3 and 4): which codes decode, what a table word is read as,
and what the fetch finds after a code is issued. -/

namespace Sys2Proof

variable {i : Instr} {c : Code} {w nbits : Nat}

theorem decode_encode (i : Instr) : decode (encode i) = .ok i := by
  cases i <;> rfl

/-- A select code that decodes is the code of its operation (R57). -/
theorem encode_of_decode_f {c : BitVec 4} (h : decode (.f c) = .ok i) : encode i = .f c := by
  change decodeSel c = .ok i at h
  unfold decodeSel at h
  split at h
  case h_10 => cases h
  all_goals
    next hc =>
      cases h
      exact congrArg Code.f (BitVec.eq_of_toNat_eq hc.symm)

theorem encode_of_decode (h : decode c = .ok i) : encode i = c := by
  cases c with
  | p c => exact encode_of_decode_p h
  | f c => exact encode_of_decode_f h

theorem accepted_eq_some {r : Except DecodeError Instr} : accepted r = some i ↔ r = .ok i := by
  cases r <;> simp [accepted]

theorem wf_encode (i : Instr) : (encode i).wf = true := by
  cases i <;> rfl

/-- Every code that is not reserved names an operation (R61). -/
theorem exists_decode_of_wf (h : c.wf = true) : ∃ i, decode c = .ok i := by
  have hsome : (accepted (decode c)).isSome = true := by
    cases c with
    | p c => revert c; decide
    | f c => revert c; decide
  obtain ⟨i, hi⟩ := Option.isSome_iff_exists.1 hsome
  exact ⟨i, accepted_eq_some.1 hi⟩

theorem wf_iff_decodes (c : Code) : c.wf = true ↔ ∃ i, decode c = .ok i :=
  ⟨exists_decode_of_wf, fun ⟨i, hi⟩ => encode_of_decode hi ▸ wf_encode i⟩

/-! ### Table words -/

/-- A word of a code's own width and number is read as that code. -/
theorem decodeTableWord_value (c : Code) : decodeTableWord c.width c.value = accepted (decode c) := by
  cases c with
  | p c => simp [decodeTableWord, phaseWord, Code.width, Code.value, c.isLt]
  | f c => simp [decodeTableWord, selWord, Code.width, Code.value, c.isLt]

theorem eq_value_of_phaseWord (h : phaseWord w = some i) : w = (encode i).value := by
  unfold phaseWord at h
  split at h
  · next hw =>
    rw [encode_of_decode (accepted_eq_some.1 h), Code.value, BitVec.toNat_ofNat, Nat.mod_eq_of_lt hw]
  · cases h

theorem eq_value_of_selWord (h : selWord w = some i) : w = (encode i).value := by
  unfold selWord at h
  split at h
  · next hw =>
    rw [encode_of_decode (accepted_eq_some.1 h), Code.value, BitVec.toNat_ofNat, Nat.mod_eq_of_lt hw]
  · cases h

/-- A table word is read as a phase code or as a select code, whatever its width. -/
theorem decodeTableWord_cases (h : decodeTableWord nbits w = some i) : phaseWord w = some i ∨ selWord w = some i := by
  unfold decodeTableWord at h
  split at h
  · exact .inl h
  · split at h
    · exact .inr h
    · exact (Option.or_eq_some_iff.1 h).imp_right And.right

theorem eq_value_of_decodeTableWord (h : decodeTableWord nbits w = some i) : w = (encode i).value :=
  (decodeTableWord_cases h).elim eq_value_of_phaseWord eq_value_of_selWord

/-- The select codes 9 to 15 are reserved (R61). -/
theorem decode_f_reserved {c : BitVec 4} (h : 9 ≤ c.toNat) : decode (.f c) = .error (.reservedSel c) := by
  revert c
  decide

namespace Machine

variable {s : State}

@[simp] theorem nextCode_issue (c : Code) : (s.issue c).nextCode = c := by
  cases c <;> rfl

theorem fetch_of_decode (h : decode s.nextCode = .ok i) : s.fetch = .ok i := by
  rw [State.fetch, h]

theorem tableCode_eq_encode (h : decodeTableWord nbits w = some i) : tableCode nbits w = encode i := by
  rw [tableCode, h]

/-- A table word that is placed is what the fetch finds. -/
theorem fetch_withFetchWord (h : decodeTableWord nbits w = some i) : (s.withFetchWord nbits w).fetch = .ok i := by
  apply fetch_of_decode
  rw [State.withFetchWord, tableCode_eq_encode h, nextCode_issue, decode_encode]

/-! ### The step by the next code -/

theorem nextCode_of_sel_some {c : BitVec 4} (h : s.sel = some c) : s.nextCode = .f c := by
  rw [State.nextCode, h]

theorem step_eq_afterNext (hr : s.resetIn = false) (hi : decode s.nextCode = .ok i) :
    step s = afterNext (exec i s) State.advance := by
  simp [step, hr, fetch_of_decode hi]

theorem step_refused {e : DecodeError} (hr : s.resetIn = false) (he : decode s.nextCode = .error e) :
    step s = .refused (refusalOf e) := by
  simp [step, hr, State.fetch, he]

theorem step_under_reset (hr : s.resetIn = true) : step s = .next s.applyReset.advance := by
  rw [step, if_pos hr]

end Machine
end Sys2Proof
end

section
/-! PROOF. Codes, the step and reset (`30_encoding.md` sections 3 and 4, `42_sequencer_and_bus.md` section 1). -/

open Sys2Proof Sys2Proof.Machine

/-- Settles O2: a code that decodes is the code of its operation (`encode_of_decode`), and a table word is the number of
such a code (`eq_value_of_decodeTableWord`). -/
theorem decodeAndEncodeAgree : Obligations.DecodeAndEncodeAgree :=
  ⟨decode_encode, fun _ _ => encode_of_decode, wf_iff_decodes,
    fun i => by rw [decodeTableWord_value, decode_encode, accepted],
    fun _ _ _ => eq_value_of_decodeTableWord, fun _ _ _ _ => fetch_withFetchWord⟩

/-- Settles O1: each row of the tables, by evaluation. -/
theorem tableCodesDecode : Obligations.TableCodesDecode := by
  unfold Obligations.TableCodesDecode
  decide

/-- Settles O3: the next code is the issued select code, or else the phase; the outcome of its operation is the step's
(`step_eq_afterNext`). -/
theorem stepRunsTheDecodedOperation : Obligations.StepRunsTheDecodedOperation := by
  refine ⟨fun s i hr hcode => ?_, fun u => rfl⟩
  have hi : decode s.nextCode = .ok i := by
    obtain ⟨hs, hp⟩ | ⟨c, hs, hc⟩ := hcode
    · rw [nextCode_of_sel_none hs, hp]
    · rw [nextCode_of_sel_some hs, hc]
  rw [step_eq_afterNext hr hi]
  cases exec i s <;> rfl

/-- Settles O4: a code that does not decode is refused by its name (`step_refused`). -/
theorem reservedCodesHaveNoStep : Obligations.ReservedCodesHaveNoStep := by
  refine ⟨fun s hr hs hp => ?_, fun s c hr hs hc => ?_⟩
  · exact step_refused hr (e := .reservedPhase 7#3) (by rw [nextCode_of_sel_none hs, hp]; rfl)
  · exact step_refused hr (e := .reservedSel c) (by rw [nextCode_of_sel_some hs, decode_f_reserved hc])

/-- Settles O5: the reset values, and the machine's parameters are admitted (`admitted_config`). -/
theorem resetStartsTheConfigurator : Obligations.ResetStartsTheConfigurator :=
  ⟨rfl, rfl, rfl, rfl, rfl, admitted_config⟩

/-- Settles O6: under reset a step is `applyReset` and the surroundings' turn (`step_under_reset`), which leave phase 0
and no select code. -/
theorem appliedResetHoldsTheBlock : Obligations.AppliedResetHoldsTheBlock := fun _ hr =>
  ⟨_, step_under_reset hr, rfl, rfl, rfl, rfl, rfl, rfl, hr, rfl⟩

end

section
/-! SUPPORT. The invariant of a run (`42_sequencer_and_bus.md` section 4), operation by operation: a sequenced operation
takes the events of its phase to those of the next, and a field operation keeps the frame that is waiting to be used. -/

namespace Sys2Proof

variable {i : Instr}

theorem field_of_encode_f {c : BitVec 4} (h : encode i = .f c) : i.sequenced = false := by
  cases i with
  | rdfull | merge | wrcfg | wait | rdsmp | decode | emit => cases h
  | cfg0 | cfg1 | cfg2 | cfg3 | extx | exty | extz | extt | chkv => rfl

namespace Machine

variable {s u : State}

/-- The next operation is a field operation, issued alone, or that of the phase. -/
theorem field_or_phase_of_decode (h : decode s.nextCode = .ok i) : i.sequenced = false ∨ encode i = .p s.phase := by
  cases hs : s.sel with
  | none => exact .inr (encode_of_decode_p (nextCode_of_sel_none hs ▸ h))
  | some c => exact .inl (field_of_encode_f (encode_of_decode_f (nextCode_of_sel_some hs ▸ h)))

/-- A field operation writes into the transmit buffer and the sample registers only (R57, R21). -/
theorem completed_of_field (h : i.sequenced = false) : i.completed s =
    { s with
      wbuf := (i.completed s).wbuf, x := (i.completed s).x, y := (i.completed s).y, z := (i.completed s).z,
      t := (i.completed s).t, valid := (i.completed s).valid } := by
  cases i with
  | rdfull | merge | wrcfg | wait | rdsmp | decode | emit => cases h
  | cfg0 | cfg1 | cfg2 | cfg3 | extx | exty | extz | extt | chkv => rfl

/-- A merged frame stays in the transmit buffer: what an operation writes there is the merged byte. -/
theorem completed_wbuf_of_merged (h : s.wbuf = mergeFrame s.rbuf s.par.preset) :
    (i.completed s).wbuf = mergeFrame s.rbuf s.par.preset := by
  refine Vector.ext fun k hk => ?_
  have hbyte := completed_wbuf (i := i) (s := s) ⟨k, hk⟩
  rw [h, ite_self] at hbyte
  exact hbyte

/-- A decoded frame stays in the sample registers: what an operation writes there is the decoded value. -/
theorem completed_sampleRegs_of_decoded (h : s.sampleRegs = decodeFrame (sampleFrame s.rbuf)) :
    (i.completed s).sampleRegs = decodeFrame (sampleFrame s.rbuf) := by
  obtain ⟨hx, hy, hz, ht, hv⟩ := Sample.mk.inj h
  simp only [State.sampleRegs, completed_x, completed_y, completed_z, completed_t, completed_valid, hx, hy, hz, ht, hv]
  simp [decodeFrame, sampleFrame]

theorem presented_eq_outputOf : s.presented = outputOf s.sampleRegs := by
  cases hv : s.valid <;> simp [State.presented, outputOf, State.sampleRegs, hv]

/-! ### The events of a phase -/

theorem traceOK_congr (hp : u.phase = s.phase) (he : u.events = s.events) (hr : u.rbuf = s.rbuf)
    (hpar : u.par = s.par) : TraceOK u ↔ TraceOK s := by
  simp only [TraceOK, hp, he, hr, hpar]

theorem traceOK_zero_iff (h : s.phase = 0) : TraceOK s ↔ s.events = [] := by
  simp [TraceOK, h]

theorem traceOK_one_iff (h : s.phase = 1) : TraceOK s ↔ s.events = [.memRead s.par.devAddr 10 s.rbuf.toList] := by
  simp [TraceOK, h]

theorem traceOK_two_iff (h : s.phase = 2) : TraceOK s ↔ s.events = [.memRead s.par.devAddr 10 s.rbuf.toList] := by
  simp [TraceOK, h]

theorem traceOK_three_iff (h : s.phase = 3) : TraceOK s ↔ Settled s.par.devAddr s.par.preset s.events := by
  simp [TraceOK, h]

theorem traceOK_four_iff (h : s.phase = 4) : TraceOK s ↔ Settled s.par.devAddr s.par.preset s.events := by
  simp [TraceOK, h]

theorem traceOK_five_iff (h : s.phase = 5) : TraceOK s ↔
    ∃ rest, s.events = .memRead s.par.devAddr 7 (sampleFrame s.rbuf).toList :: rest ∧
      Settled s.par.devAddr s.par.preset rest := by
  simp [TraceOK, h]

theorem traceOK_six_iff (h : s.phase = 6) : TraceOK s ↔
    ∃ rest, s.events = .memRead s.par.devAddr 7 (sampleFrame s.rbuf).toList :: rest ∧
      Settled s.par.devAddr s.par.preset rest := by
  simp [TraceOK, h]

/-! ### The invariant of a run -/

/-- Where neither WRCFG nor EMIT is next, the invariant is about the events alone. -/
theorem runInv_of_traceOK {p : BitVec 3} (hp : s.phase = p) (h2 : p ≠ 2) (h6 : p ≠ 6) (h : TraceOK s) : RunInv s :=
  ⟨h, fun hs => absurd (hp.symm.trans hs) h2, fun hs => absurd (hp.symm.trans hs) h6⟩

/-- The invariant is about the block, which the surroundings do not touch. -/
theorem runInv_advance (h : RunInv s) : RunInv s.advance := h

theorem runInv_applyReset : RunInv s.applyReset :=
  runInv_of_traceOK (p := 0) rfl (by decide) (by decide) ((traceOK_zero_iff rfl).2 rfl)

theorem runInv_field (hf : i.sequenced = false) (h : RunInv s) : RunInv (i.completed s) := by
  obtain ⟨htrace, hmerged, hdecoded⟩ := h
  have hframe := completed_of_field (s := s) hf
  have hphase : (i.completed s).phase = s.phase := by rw [hframe]
  have hrbuf : (i.completed s).rbuf = s.rbuf := by rw [hframe]
  have hevents : (i.completed s).events = s.events := by rw [hframe]
  refine ⟨(traceOK_congr hphase hevents hrbuf completed_par).2 htrace, fun hp => ?_, fun hp => ?_⟩
  · rw [hrbuf, completed_par]
    exact completed_wbuf_of_merged (hmerged (hphase ▸ hp))
  · rw [hrbuf]
    exact completed_sampleRegs_of_decoded (hdecoded (hphase ▸ hp))

theorem runInv_rdfull (hp : s.phase = 0) (h : RunInv s) : RunInv (Instr.rdfull.completed s) := by
  have hnone : s.events = [] := (traceOK_zero_iff hp).1 h.1
  refine runInv_of_traceOK (p := 1) rfl (by decide) (by decide) ((traceOK_one_iff rfl).2 ?_)
  rw [completed_events, hnone]
  rfl

theorem runInv_merge (hp : s.phase = 1) (h : RunInv s) : RunInv (Instr.merge.completed s) := by
  have hread := (traceOK_one_iff hp).1 h.1
  refine ⟨(traceOK_two_iff rfl).2 hread, fun _ => rfl, fun h6 => ?_⟩
  rw [completed_phase] at h6
  cases h6

/-- WRCFG writes the frame merged from the bytes of the one read before it. -/
theorem runInv_wrcfg (hp : s.phase = 2) (h : RunInv s) : RunInv (Instr.wrcfg.completed s) := by
  obtain ⟨htrace, hmerged, -⟩ := h
  have hread := (traceOK_two_iff hp).1 htrace
  refine runInv_of_traceOK (p := 3) rfl (by decide) (by decide) ((traceOK_three_iff rfl).2 ?_)
  rw [completed_events, completed_par, Instr.notes, hmerged hp, hread]
  exact .configured s.rbuf

theorem runInv_wait (hp : s.phase = 3) (h : RunInv s) : RunInv (Instr.wait.completed s) := by
  have hsettled := (traceOK_three_iff hp).1 h.1
  exact runInv_of_traceOK (p := 4) rfl (by decide) (by decide) ((traceOK_four_iff rfl).2 hsettled)

theorem runInv_rdsmp (hp : s.phase = 4) (h : RunInv s) : RunInv (Instr.rdsmp.completed s) := by
  have hsettled := (traceOK_four_iff hp).1 h.1
  exact runInv_of_traceOK (p := 5) rfl (by decide) (by decide) ((traceOK_five_iff rfl).2 ⟨s.events, rfl, hsettled⟩)

theorem runInv_decode (hp : s.phase = 5) (h : RunInv s) : RunInv (Instr.decode.completed s) := by
  have hread := (traceOK_five_iff hp).1 h.1
  refine ⟨(traceOK_six_iff rfl).2 hread, fun h2 => ?_, fun _ => rfl⟩
  rw [completed_phase] at h2
  cases h2

/-- EMIT presents the decoded frame of the read before it. -/
theorem runInv_emit (hp : s.phase = 6) (h : RunInv s) : RunInv (Instr.emit.completed s) := by
  obtain ⟨htrace, -, hdecoded⟩ := h
  obtain ⟨rest, hread, hsettled⟩ := (traceOK_six_iff hp).1 htrace
  refine runInv_of_traceOK (p := 3) rfl (by decide) (by decide) ((traceOK_three_iff rfl).2 ?_)
  rw [completed_events, completed_par, Instr.notes, presented_eq_outputOf, hdecoded hp, hread]
  exact .cycle _ rest hsettled

/-- The operation that comes next keeps the invariant. -/
theorem runInv_completed (hi : decode s.nextCode = .ok i) (h : RunInv s) : RunInv (i.completed s) := by
  obtain hfield | hphase := field_or_phase_of_decode hi
  · exact runInv_field hfield h
  · cases i with
    | rdfull => exact runInv_rdfull (Code.p.inj hphase).symm h
    | merge => exact runInv_merge (Code.p.inj hphase).symm h
    | wrcfg => exact runInv_wrcfg (Code.p.inj hphase).symm h
    | wait => exact runInv_wait (Code.p.inj hphase).symm h
    | rdsmp => exact runInv_rdsmp (Code.p.inj hphase).symm h
    | decode => exact runInv_decode (Code.p.inj hphase).symm h
    | emit => exact runInv_emit (Code.p.inj hphase).symm h
    | cfg0 | cfg1 | cfg2 | cfg3 | extx | exty | extz | extt | chkv => cases hphase

end Machine
end Sys2Proof
end

section
/-! PROOF. A run keeps its invariant (`42_sequencer_and_bus.md` section 4). -/

open Sys2Proof Sys2Proof.Machine

/-- Settles O42: reset begins the run anew, the next operation keeps the invariant (`runInv_completed`), and the
surroundings do not touch it. -/
theorem stepKeepsTheRun : Obligations.StepKeepsTheRun := by
  intro s u h hstep
  obtain ⟨-, rfl⟩ | ⟨-, i, v, hi, hv, rfl⟩ := step_eq_next hstep
  · exact runInv_advance runInv_applyReset
  · obtain rfl := exec_eq_next hv
    exact runInv_advance (runInv_completed hi h)

/-- Settles O43: after reset phase is 0 and there are no events. -/
theorem resetBeginsTheRun : Obligations.ResetBeginsTheRun :=
  runInv_of_traceOK (p := 0) rfl (by decide) (by decide) ((traceOK_zero_iff rfl).2 rfl)

end

section
/-! SUPPORT. The output channel (`42_sequencer_and_bus.md` R107): one Output received keeps the rows laid out. -/

namespace Sys2Proof.Machine

theorem laid_receive {c : Channel} (o : Output) (h : Laid c.rows c.count) :
    Laid (c.receive o).rows (c.receive o).count := by
  cases o with
  | errorMarker => exact .marker h
  | sample x y z t =>
    by_cases hcount : c.count % 15 = 0
    · simpa [Channel.receive, hcount] using Laid.headed x y z t h hcount
    · simpa [Channel.receive, hcount] using Laid.plain x y z t h hcount

variable {i : Instr} {s : State}

/-- Only EMIT hands the channel an Output. -/
theorem channelOK_completed (h : ChannelOK s) : ChannelOK (i.completed s) := by
  by_cases he : i = .emit
  · subst he
    exact laid_receive s.presented h
  · rw [ChannelOK, completed_chan he]
    exact h

/-- A sample `(x, y, z, t)` as an Output. -/
def sampleOutput (v : Int × Int × Int × Int) : Output := .sample v.1 v.2.1 v.2.2.1 v.2.2.2

/-- The rows of a sample that is the one of index `n`, oldest first. -/
def samplePrint (v : Int × Int × Int × Int) (n : Nat) : List Row :=
  (if n % 15 = 0 then [Row.header] else []) ++ [.sample v.1 v.2.1 v.2.2.1 v.2.2.2]

theorem rows_receive_sample (c : Channel) (v : Int × Int × Int × Int) :
    (c.receive (sampleOutput v)).rows.reverse = c.rows.reverse ++ samplePrint v c.count := by
  by_cases hcount : c.count % 15 = 0 <;> simp [Channel.receive, sampleOutput, samplePrint, hcount]

theorem count_receive_sample (c : Channel) (v : Int × Int × Int × Int) :
    (c.receive (sampleOutput v)).count = c.count + 1 := rfl

/-- The channel after these samples, from empty. -/
def Channel.fed (vs : List (Int × Int × Int × Int)) : Channel :=
  vs.foldl (fun c v => c.receive (sampleOutput v)) { count := 0, rows := [] }

theorem Channel.fed_concat (vs : List (Int × Int × Int × Int)) (v : Int × Int × Int × Int) :
    Channel.fed (vs ++ [v]) = (Channel.fed vs).receive (sampleOutput v) :=
  List.foldl_concat ..

/-- The count is the number of samples, and each is printed with its index, by induction from the last sample. -/
theorem Channel.fed_count_rows (vs : List (Int × Int × Int × Int)) :
    (Channel.fed vs).count = vs.length ∧
    (Channel.fed vs).rows.reverse = vs.zipIdx.flatMap fun p => samplePrint p.1 p.2 := by
  induction vs using List.reverseRecOn with
  | nil => exact ⟨rfl, rfl⟩
  | append_singleton vs v ih =>
    obtain ⟨hcount, hrows⟩ := ih
    rw [fed_concat]
    refine ⟨?_, ?_⟩
    · rw [count_receive_sample, hcount, List.length_append, List.length_singleton]
    · rw [rows_receive_sample, hcount, hrows]
      simp [List.zipIdx_append]

end Sys2Proof.Machine
end

section
/-! PROOF. The output channel (`42_sequencer_and_bus.md` section 3). -/

open Sys2Proof Sys2Proof.Machine

/-- Settles O44: reset keeps the channel, and an operation hands it at most one Output (`channelOK_completed`). -/
theorem stepKeepsTheChannelLaidOut : Obligations.StepKeepsTheChannelLaidOut := by
  intro s u h hstep
  obtain ⟨-, rfl⟩ | ⟨-, i, v, -, hv, rfl⟩ := step_eq_next hstep
  · exact h
  · obtain rfl := exec_eq_next hv
    exact channelOK_completed h

/-- Settles O45: after reset the channel is empty. -/
theorem resetChannelLaidOut : Obligations.ResetChannelLaidOut :=
  .nil

/-- Settles O33, by induction on the samples (`Channel.fed_count_rows`). -/
theorem headerEveryFifteenSamples : Obligations.HeaderEveryFifteenSamples :=
  ⟨Channel.fed_count_rows, fun _ => rfl, rfl⟩

end

section
/-! SUPPORT. The merge (`40_configurator.md` section 4): bytes 1 to 3 are masked merges, with the calibration mask of R70.
-/

namespace Sys2Proof

section MaskedMerge

variable {w : Nat} {mask p : BitVec w} (raw : BitVec w)

/-- Where the preset is clear, the merge is the register on the mask. -/
theorem maskedMerge_and_not_preset : ((raw &&& mask) ||| p) &&& ~~~p = raw &&& mask &&& ~~~p := by
  rw [BitVec.and_or_distrib_right, BitVec.and_not_self]
  exact BitVec.or_zero

/-- Off the mask and where the preset is clear, the merge is clear. -/
theorem maskedMerge_and_not_mask_and_not_preset : ((raw &&& mask) ||| p) &&& ~~~mask &&& ~~~p = 0#w := by
  ext k hk
  by_cases hm : mask[k] <;> simp [hm]

/-- Off the mask the merge is the preset, when the preset is clear on it: mode bits are applied. -/
theorem maskedMerge_and_not_mask (h : p &&& mask = 0#w) : ((raw &&& mask) ||| p) &&& ~~~mask = p := by
  have hp : p &&& ~~~mask = p := by
    calc p &&& ~~~mask = (p &&& mask) ||| (p &&& ~~~mask) := by rw [h, BitVec.zero_or]
      _ = p := by rw [← BitVec.and_or_distrib_left, BitVec.or_not_self, BitVec.and_allOnes]
  rw [maskedMerge_and_of_disjoint raw (BitVec.and_not_self mask), hp]

end MaskedMerge

namespace Machine

variable {raw raw' : Vector Byte 10} {P : Vector Byte 4}

/-- Bytes 1 to 3 of the merge are masked merges; the mask of byte 2 is the whole byte. -/
theorem mergeFrame_getElem (i : Nat) (h1 : 1 ≤ i) (hi : i < 4) :
    (mergeFrame raw P)[i] = (raw[i + 6] &&& calMask[i]) ||| P[i] := by
  obtain rfl | rfl | rfl : i = 1 ∨ i = 2 ∨ i = 3 := by omega
  · rfl
  · have hmask : calMask[2] = BitVec.allOnes 8 := rfl
    rw [hmask, BitVec.and_allOnes]
    rfl
  · rfl

/-- A well-formed preset is clear on the mask (R71). -/
theorem and_calMask_of_presetWF (hwf : presetWF P = true) (i : Nat) (h1 : 1 ≤ i) (hi : i < 4) :
    P[i] &&& calMask[i] = 0#8 := by
  obtain ⟨-, hp1, hp2, hp3⟩ := presetWF_iff.1 hwf
  obtain rfl | rfl | rfl : i = 1 ∨ i = 2 ∨ i = 3 := by omega
  · exact hp1
  · rw [hp2]
    exact BitVec.zero_and
  · exact hp3

/-- The merge depends on the calibration bits of the frame alone. -/
theorem mergeFrame_eq_of_calibration (h7 : raw[7] &&& 0x78#8 = raw'[7] &&& 0x78#8) (h8 : raw[8] = raw'[8])
    (h9 : raw[9] &&& 0x0F#8 = raw'[9] &&& 0x0F#8) : mergeFrame raw P = mergeFrame raw' P := by
  simp only [mergeFrame, cfgByte1, cfgByte2, cfgByte3, h7, h8, h9]

/-- Under a well-formed preset the merge keeps calibration and applies the mode bits. -/
theorem mergeFrame_of_presetWF (hwf : presetWF P = true) (i : Nat) (h1 : 1 ≤ i) (hi : i < 4) :
    (mergeFrame raw P)[i] &&& calMask[i] = raw[i + 6] &&& calMask[i] ∧
    (mergeFrame raw P)[i] &&& ~~~calMask[i] = P[i] := by
  have hclear := and_calMask_of_presetWF hwf i h1 hi
  rw [mergeFrame_getElem i h1 hi]
  exact ⟨maskedMerge_and_mask _ hclear, maskedMerge_and_not_mask _ hclear⟩

/-- Byte 2 carries calibration bits only, and a well-formed preset has none there. -/
theorem mergeFrame_two_of_presetWF (hwf : presetWF P = true) : (mergeFrame raw P)[2] = raw[8] := by
  obtain ⟨-, -, hp2, -⟩ := presetWF_iff.1 hwf
  show raw[8] ||| P[2] = raw[8]
  rw [hp2, BitVec.or_zero]

/-- The guarantee byte by byte, with the masks as numbers. -/
theorem mergeFrame_bytes_of_presetWF (hwf : presetWF P = true) :
    (mergeFrame raw P)[0] = 0x00#8 ∧ (mergeFrame raw P)[1] &&& 0x78#8 = raw[7] &&& 0x78#8 ∧
    (mergeFrame raw P)[2] = raw[8] ∧ (mergeFrame raw P)[3] &&& 0x0F#8 = raw[9] &&& 0x0F#8 ∧
    (mergeFrame raw P)[1] &&& 0x87#8 = P[1] ∧ (mergeFrame raw P)[3] &&& 0xF0#8 = P[3] := by
  obtain ⟨hcal1, hmode1⟩ := mergeFrame_of_presetWF (raw := raw) hwf 1 (by decide) (by decide)
  obtain ⟨hcal3, hmode3⟩ := mergeFrame_of_presetWF (raw := raw) hwf 3 (by decide) (by decide)
  exact ⟨rfl, hcal1, mergeFrame_two_of_presetWF hwf, hcal3, hmode1, hmode3⟩

end Machine
end Sys2Proof
end

section
/-! PROOF. The guarantee of the merge (`40_configurator.md` section 4). -/

open Sys2Proof Sys2Proof.Machine

/-- Settles O12: the laws of a masked merge, byte by byte (`mergeFrame_getElem`). -/
theorem mergeGuarantee : Obligations.MergeGuarantee := by
  refine ⟨fun raw P => ⟨rfl, fun i h1 hi => ?_⟩, fun raw P hwf => ?_, fun _ _ _ => mergeFrame_eq_of_calibration⟩
  · rw [mergeFrame_getElem i h1 hi]
    exact ⟨rfl, maskedMerge_and_not_preset _, maskedMerge_and_not_mask_and_not_preset _⟩
  · obtain ⟨hp0, -⟩ := presetWF_iff.1 hwf
    exact ⟨mergeFrame_two_of_presetWF hwf, hp0.symm, hp0, mergeFrame_of_presetWF hwf⟩

end

section
/-! SUPPORT. The values of the sample registers (`41_sample_decoder.md` sections 2 to 6): the signed reading and its
inverse, the patterns of T, the packing of a frame, and the bits of a frame that are ignored. -/

namespace Sys2Proof.Machine

/-! ### The signed reading is one to one -/

theorem s12_injective {r r' : Word12} (h : s12 r = s12 r') : r = r' := by
  rw [s12_eq_toInt, s12_eq_toInt] at h
  exact BitVec.eq_of_toInt_eq h

theorem s12_bounds (r : Word12) : -2048 ≤ s12 r ∧ s12 r ≤ 2047 := by
  rw [s12_eq_toInt]
  exact ⟨r.le_toInt, BitVec.toInt_le⟩

theorem s12_pattern12 {v : Int} (hlo : -2048 ≤ v) (hhi : v ≤ 2047) : s12 (pattern12 v) = v := by
  rw [s12_eq_toInt, pattern12, BitVec.toInt_ofInt]
  exact Int.bmod_eq_of_le (by omega) (by omega)

theorem pattern12_toNat (v : Int) : ((pattern12 v).toNat : Int) = v % 4096 := by
  rw [pattern12, BitVec.toNat_ofInt]
  exact Int.toNat_of_nonneg (Int.emod_nonneg v (by decide))

theorem pattern12_s12 (r : Word12) : pattern12 (s12 r) = r :=
  s12_injective (s12_pattern12 (s12_bounds r).1 (s12_bounds r).2)

/-! ### Two nibbles in a byte -/

theorem nibbles_toNat (h l : Nibble) : (h ++ l).toNat = 16 * h.toNat + l.toNat := by
  rw [BitVec.toNat_append, ← Nat.shiftLeft_add_eq_or_of_lt l.isLt, Nat.shiftLeft_eq, Nat.mul_comm]

@[simp] theorem upperNibble_nibbles (h l : Nibble) : (h ++ l : Byte).extractLsb' 4 4 = h :=
  BitVec.extractLsb'_append_eq_left

@[simp] theorem lowerNibble_nibbles (h l : Nibble) : (h ++ l : Byte).extractLsb' 0 4 = l :=
  BitVec.extractLsb'_append_eq_right

/-- A pattern is its high byte over its nibble. -/
@[simp] theorem slices_append (r : Word12) : (r.extractLsb' 4 8 ++ r.extractLsb' 0 4 : Word12) = r :=
  BitVec.extractLsb'_append_extractLsb'

/-! ### The patterns of T (R86, R87) -/

/-- The pattern of T with upper nibble `h` and lower nibble `l`; the middle bits are zero. -/
def tPattern (h l : Nibble) : Word12 := asm12 (h ++ 0b0000#4) l

theorem channelT_eq_tPattern (f3 f6 : Byte) :
    channelT f3 f6 = tPattern (f3.extractLsb' 4 4) (f6.extractLsb' 0 4) := by
  rw [channelT, tPattern, lowNibble_eq_slice, and_highMask_eq_append]

theorem tPattern_eq_channelT (h l : Nibble) : tPattern h l = channelT (h ++ 0b0000#4) (0b0000#4 ++ l) := by
  rw [channelT_eq_tPattern, upperNibble_nibbles, lowerNibble_nibbles]

theorem tPattern_toNat (h l : Nibble) : (tPattern h l).toNat = 256 * h.toNat + l.toNat := by
  rw [tPattern, asm12_toNat, nibbles_toNat, BitVec.toNat_ofNat]
  omega

theorem s12_tPattern (h l : Nibble) : s12 (tPattern h l) =
    if h.toNat < 8 then 256 * (h.toNat : Int) + l.toNat else 256 * (h.toNat : Int) + l.toNat - 4096 := by
  have hl := l.isLt
  rw [s12, tPattern_toNat]
  by_cases hh : h.toNat < 8
  · rw [if_pos hh, if_pos (by omega)]
    omega
  · rw [if_neg hh, if_neg (by omega)]
    omega

theorem tValue_s12_tPattern (h l : Nibble) : tValue (s12 (tPattern h l)) :=
  ⟨h.toNat, l.toNat, h.isLt, l.isLt, s12_tPattern h l⟩

theorem exists_tPattern_of_tValue {v : Int} (hv : tValue v) : ∃ h l, s12 (tPattern h l) = v := by
  obtain ⟨h, l, hh, hl, rfl⟩ := hv
  refine ⟨BitVec.ofNat 4 h, BitVec.ofNat 4 l, ?_⟩
  rw [s12_tPattern, BitVec.toNat_ofNat, BitVec.toNat_ofNat, Nat.mod_eq_of_lt hh, Nat.mod_eq_of_lt hl]

theorem tValue_s12_channelT (f3 f6 : Byte) : tValue (s12 (channelT f3 f6)) := by
  rw [channelT_eq_tPattern]
  exact tValue_s12_tPattern _ _

theorem tValue_bounds {v : Int} (hv : tValue v) : -2048 ≤ v ∧ v ≤ 1807 := by
  obtain ⟨h, l, hh, hl, rfl⟩ := hv
  split <;> omega

/-! ### Ignored bits (`30_encoding.md` section 4) -/

/-- A slice on which a mask is set does not depend on the bits off the mask. -/
theorem slice_eq_of_and_eq {w : Nat} {a b mask : BitVec w} {start len : Nat} (h : a &&& mask = b &&& mask)
    (hmask : mask.extractLsb' start len = BitVec.allOnes len) :
    a.extractLsb' start len = b.extractLsb' start len := by
  have hslice : ∀ c : BitVec w, (c &&& mask).extractLsb' start len = c.extractLsb' start len := fun c => by
    rw [BitVec.extractLsb'_and, hmask, BitVec.and_allOnes]
  rw [← hslice a, h, hslice b]

theorem decodeFrame_eq_of_ignored {f f' : Vector Byte 7} (h0 : f[0] = f'[0]) (h1 : f[1] = f'[1]) (h2 : f[2] = f'[2])
    (h3 : f[3] &&& 0xF3#8 = f'[3] &&& 0xF3#8) (h4 : f[4] = f'[4]) (h5 : f[5] &&& 0x0F#8 = f'[5] &&& 0x0F#8)
    (h6 : f[6] &&& 0x0F#8 = f'[6] &&& 0x0F#8) : decodeFrame f = decodeFrame f' := by
  have hhigh : f[3].extractLsb' 4 4 = f'[3].extractLsb' 4 4 := slice_eq_of_and_eq h3 (by decide)
  have hstatus : f[3].extractLsb' 0 2 = f'[3].extractLsb' 0 2 := slice_eq_of_and_eq h3 (by decide)
  have hz : f[5].extractLsb' 0 4 = f'[5].extractLsb' 0 4 := slice_eq_of_and_eq h5 (by decide)
  have ht : f[6].extractLsb' 0 4 = f'[6].extractLsb' 0 4 := slice_eq_of_and_eq h6 (by decide)
  simp only [decodeFrame, channelZ_eq_append, channelT_eq_append, frameValid_eq_decide, h0, h1, h2, h4, hhigh, hstatus,
    hz, ht]

/-! ### Packing (R91) -/

theorem highByte_eq_slice (r : Word12) : highByte r = r.extractLsb' 4 8 :=
  BitVec.setWidth_ushiftRight_eq_extractLsb

theorem lowNibble_toNat_of_pattern (r : Word12) : (r.extractLsb' 0 4).toNat = r.toNat % 16 := by
  rw [BitVec.extractLsb'_toNat, Nat.shiftRight_zero]

theorem nibbleByte_toNat (r : Word12) : (nibbleByte r).toNat = r.toNat % 16 := by
  have hmod : r.toNat &&& 15 = r.toNat % 16 := Nat.and_two_pow_sub_one_eq_mod r.toNat 4
  rw [nibbleByte, BitVec.toNat_setWidth, BitVec.toNat_and, show (0x00F#12).toNat = 15 from rfl, hmod]
  omega

theorem nibbleByte_eq_append (r : Word12) : nibbleByte r = 0b0000#4 ++ r.extractLsb' 0 4 := by
  apply BitVec.eq_of_toNat_eq
  rw [nibbleByte_toNat, nibbles_toNat, lowNibble_toNat_of_pattern, BitVec.toNat_ofNat]
  omega

theorem nibbleByte_pair_eq_append (r r' : Word12) :
    (nibbleByte r <<< 4) ||| nibbleByte r' = r.extractLsb' 0 4 ++ r'.extractLsb' 0 4 := by
  have hlt : (r.toNat % 16) <<< 4 < 256 := by
    rw [Nat.shiftLeft_eq]
    omega
  apply BitVec.eq_of_toNat_eq
  rw [BitVec.toNat_or, BitVec.toNat_shiftLeft, nibbleByte_toNat, nibbleByte_toNat, BitVec.toNat_append,
    lowNibble_toNat_of_pattern, lowNibble_toNat_of_pattern, Nat.mod_eq_of_lt hlt]

theorem upperNibble_highByte (r : Word12) : (r.extractLsb' 4 8).extractLsb' 4 4 = r.extractLsb' 8 4 := by
  ext k hk
  have hk8 : 4 + k < 8 := by omega
  simp [hk8, ← Nat.add_assoc]

theorem packFrame_eq_slices (x y z t : Int) : packFrame x y z t =
    #v[(pattern12 x).extractLsb' 4 8, (pattern12 y).extractLsb' 4 8, (pattern12 z).extractLsb' 4 8,
      (pattern12 t).extractLsb' 8 4 ++ 0b0000#4, (pattern12 x).extractLsb' 0 4 ++ (pattern12 y).extractLsb' 0 4,
      0b0000#4 ++ (pattern12 z).extractLsb' 0 4, 0b0000#4 ++ (pattern12 t).extractLsb' 0 4] := by
  rw [packFrame, nibbleByte_pair_eq_append, nibbleByte_eq_append, nibbleByte_eq_append]
  simp only [highByte_eq_slice, and_highMask_eq_append, upperNibble_highByte]

/-- The slices of a pattern of T are its two nibbles, and the middle bits carry nothing. -/
theorem tPattern_slices (h l : Nibble) :
    tPattern ((tPattern h l).extractLsb' 8 4) ((tPattern h l).extractLsb' 0 4) = tPattern h l := by
  have hbyte : (tPattern h l).extractLsb' 4 8 = h ++ 0b0000#4 := by
    rw [tPattern, asm12_eq_append, BitVec.extractLsb'_append_eq_left]
  have hlow : (tPattern h l).extractLsb' 0 4 = l := by
    rw [tPattern, asm12_eq_append, BitVec.extractLsb'_append_eq_right]
  rw [← upperNibble_highByte, hbyte, hlow, upperNibble_nibbles]

/-- Decoding a packed frame gives the patterns back, that of T when it is one of the 256 (R91). -/
theorem decodeFrame_packFrame (x y z : Int) (h l : Nibble) :
    decodeFrame (packFrame x y z (s12 (tPattern h l))) =
      { x := pattern12 x, y := pattern12 y, z := pattern12 z, t := tPattern h l, valid := true } := by
  rw [packFrame_eq_slices, pattern12_s12]
  have hstatus : ((tPattern h l).extractLsb' 8 4 ++ 0b0000#4).extractLsb' 0 2 = 0#2 := by
    rw [BitVec.extractLsb'_append_eq_of_add_le (by omega)]
    rfl
  simp [decodeFrame, channelX_eq_append, channelY_eq_append, channelZ_eq_append, channelT_eq_tPattern,
    frameValid_eq_decide, hstatus, tPattern_slices]

end Sys2Proof.Machine
end

section
/-! PROOF. The values of the sample registers, the packing and the ignored bits (`41_sample_decoder.md` sections 2, 3, 6
and 7, `30_encoding.md` section 4). -/

open Sys2Proof Sys2Proof.Machine

/-- Settles O15: the reading is the two's-complement value, whose inverse and sign extension are the library's. -/
theorem signedReadingIsABijection : Obligations.SignedReadingIsABijection := by
  refine ⟨fun _ _ => s12_injective, fun v hlo hhi => ⟨s12_pattern12 hlo hhi, pattern12_toNat v⟩, fun n r hn => ?_⟩
  rw [sextSample, BitVec.toInt_signExtend_of_le hn, s12_eq_toInt]

/-- Settles O20: what EXTT writes is a pattern of two nibbles (`channelT_eq_tPattern`), and each such pattern is that of
a frame (`tPattern_eq_channelT`). -/
theorem temperatureValues : Obligations.TemperatureValues := by
  refine ⟨fun s u h => ?_, fun v hv => ?_, ⟨8, 0, by decide⟩, ⟨7, 15, by decide⟩⟩
  · rw [exec_extt] at h
    cases h
    have hvalue : tValue (s12 (channelT s.rbuf[3] s.rbuf[6])) := tValue_s12_channelT _ _
    exact ⟨hvalue, tValue_bounds hvalue⟩
  · obtain ⟨h, l, rfl⟩ := exists_tPattern_of_tValue hv
    refine ⟨State.reset.setRbuf #v[0, 0, 0, h ++ 0b0000#4, 0, 0, 0b0000#4 ++ l, 0, 0, 0], _, exec_extt, ?_⟩
    rw [tPattern_eq_channelT]
    rfl

/-- Settles O24: a frame that agrees with a packed one outside the ignored bits decodes as that one does
(`decodeFrame_eq_of_ignored`), which gives the packed patterns back (`decodeFrame_packFrame`). -/
theorem packThenDecodeRoundTrip : Obligations.PackThenDecodeRoundTrip := by
  refine ⟨fun x y z t f hx hx' hy hy' hz hz' ht h0 h1 h2 h3 h4 h5 h6 => ?_, packFrame_eq_slices, pattern12_toNat,
    fun f => tValue_s12_channelT _ _⟩
  have hpacked : decodeFrame f = decodeFrame (packFrame x y z t) := by
    refine decodeFrame_eq_of_ignored h0 h1 h2 ?_ h4 ?_ ?_
    · rw [← h3, BitVec.and_assoc, BitVec.and_self]
    · rw [← h5, BitVec.and_assoc, BitVec.and_self]
    · rw [← h6, BitVec.and_assoc, BitVec.and_self]
  obtain ⟨h, l, rfl⟩ := exists_tPattern_of_tValue ht
  rw [hpacked, decodeFrame_packFrame, outputOf, if_pos rfl, s12_pattern12 hx hx', s12_pattern12 hy hy',
    s12_pattern12 hz hz']

/-- Settles O25: the two readings at these patterns, by evaluation. -/
theorem referenceDefectIsNotTheReading : Obligations.ReferenceDefectIsNotTheReading := by
  unfold Obligations.ReferenceDefectIsNotTheReading
  decide

/-- Settles O26: the ignored bits of the two frames, and no row of the successor table holds phase 7
(`nextPhase_ne_seven`). -/
theorem ignoredBitsChangeNothing : Obligations.IgnoredBitsChangeNothing := by
  refine ⟨fun _ _ => decodeFrame_eq_of_ignored, fun _ _ _ => mergeFrame_eq_of_calibration,
    fun s => ⟨⟨_, exec_decode⟩, ⟨_, exec_merge⟩⟩, fun i s u h hs => ?_, rfl, fun _ => decode_f_reserved⟩
  rw [exec_phase h]
  cases hnext : i.nextPhase with
  | none => exact hs
  | some p => exact fun h7 => nextPhase_ne_seven (hnext.trans (congrArg some h7))

end

section
/-! SUPPORT. The field multiplexer (`30_encoding.md` R58): no output for a reserved code, and the part of `fout` that a
destination takes. -/

namespace Sys2Proof.Machine

variable {r : Vector Byte 10} {P : Vector Byte 4}

theorem fmux_reserved {sel : BitVec 4} (h : 9 ≤ sel.toNat) : fmux sel r P = none := by
  unfold fmux
  split
  case h_10 => rfl
  all_goals omega

/-- A destination of 8 bits takes back the byte that was zero-extended (D13). -/
theorem byte_of_fout (b : Byte) : (b.setWidth 12).setWidth 8 = b := by
  rw [BitVec.setWidth_setWidth_of_le b (by decide), BitVec.setWidth_eq]

/-- A destination of 1 bit takes back the flag that was zero-extended (D13). -/
theorem flag_of_fout (b : Bool) : (if b then (1 : Word12) else 0).getLsbD 0 = b := by
  cases b <;> rfl

end Sys2Proof.Machine
end

section
/-! PROOF. The field multiplexer (`30_encoding.md` section 3). -/

open Sys2Proof Sys2Proof.Machine

/-- Settles O27: each line is the value that the equation of its operation writes, with the channels as concatenations;
a byte and the flag come back from their zero extension (`byte_of_fout`, `flag_of_fout`). -/
theorem fieldMultiplexerAgrees : Obligations.FieldMultiplexerAgrees := by
  refine ⟨fun r P => ?_, fun s v => ?_⟩
  · refine ⟨rfl, rfl, rfl, rfl, congrArg some (channelX_eq_append _ _), congrArg some (channelY_eq_append _ _),
      congrArg some (channelZ_eq_append _ _), ?_, ?_, fun _ => fmux_reserved⟩
    · show some (asm12 (r[3] &&& 0xF0#8) (lowNibble r[6])) = _
      rw [asm12_eq_append, lowNibble_eq_slice]
    · show some (if frameValid r[3] then 1#12 else 0#12) = _
      simp only [frameValid_iff]
  · refine ⟨fun h => ?_, fun h => ?_, fun h => ?_, fun h => ?_, fun h => ?_, fun h => ?_, fun h => ?_, fun h => ?_,
      fun h => ?_⟩
    all_goals obtain rfl := Option.some.inj h
    · rw [exec_cfg0, byte_of_fout, State.setWbuf]
    · rw [exec_cfg1, byte_of_fout, State.setWbuf]
    · rw [exec_cfg2, byte_of_fout, State.setWbuf]
    · rw [exec_cfg3, byte_of_fout, State.setWbuf]
    · exact exec_extx
    · exact exec_exty
    · exact exec_extz
    · exact exec_extt
    · rw [exec_chkv, flag_of_fout, State.setValid]

end

section
/-! SUPPORT. Which operation leads to a phase (`42_sequencer_and_bus.md` R108), and which operations complete in every
state (R105, D15). -/

namespace Sys2Proof

variable {i : Instr}

theorem field_of_nextPhase_none (h : i.nextPhase = none) : i.sequenced = false := by
  cases i with
  | rdfull | merge | wrcfg | wait | rdsmp | decode | emit => cases h
  | cfg0 | cfg1 | cfg2 | cfg3 | extx | exty | extz | extt | chkv => rfl

theorem nextPhase_ne_zero : i.nextPhase ≠ some 0#3 := by
  cases i <;> decide

theorem eq_merge_of_nextPhase (h : i.nextPhase = some 2#3) : i = .merge := by
  cases i with
  | merge => rfl
  | _ => exact absurd h (by decide)

theorem eq_wait_of_nextPhase (h : i.nextPhase = some 4#3) : i = .wait := by
  cases i with
  | wait => rfl
  | _ => exact absurd h (by decide)

namespace Machine

variable {s u : State}

/-- The phase after an operation is the one its row writes, or a field operation kept it. -/
theorem nextPhase_or_field (h : exec i s = .next u) :
    i.nextPhase = some u.phase ∨ i.sequenced = false ∧ s.phase = u.phase := by
  rw [exec_phase h]
  cases hnext : i.nextPhase with
  | none => exact .inr ⟨field_of_nextPhase_none hnext, rfl⟩
  | some p => exact .inl rfl

/-- Only MERGE leads to phase 2. -/
theorem merge_or_field_of_phase_two (h : exec i s = .next u) (hp : u.phase = 2#3) :
    i = .merge ∨ i.sequenced = false ∧ s.phase = 2#3 := by
  rw [← hp]
  exact (nextPhase_or_field h).imp_left fun hnext => eq_merge_of_nextPhase (hnext.trans (congrArg some hp))

/-- Only WAIT leads to phase 4. -/
theorem wait_or_field_of_phase_four (h : exec i s = .next u) (hp : u.phase = 4#3) :
    i = .wait ∨ i.sequenced = false ∧ s.phase = 4#3 := by
  rw [← hp]
  exact (nextPhase_or_field h).imp_left fun hnext => eq_wait_of_nextPhase (hnext.trans (congrArg some hp))

/-- An operation that makes no bus call completes. -/
theorem exec_of_not_bus (hf : i ≠ .rdfull) (hw : i ≠ .wrcfg) (hs : i ≠ .rdsmp) :
    exec i s = .next (i.completed s) := by
  cases i with
  | rdfull => exact absurd rfl hf
  | wrcfg => exact absurd rfl hw
  | rdsmp => exact absurd rfl hs
  | chkv => exact exec_chkv
  | decode => exact exec_decode
  | merge | wait | emit | cfg0 | cfg1 | cfg2 | cfg3 | extx | exty | extz | extt => rfl

theorem exec_of_field (h : i.sequenced = false) : exec i s = .next (i.completed s) :=
  exec_of_not_bus (by rintro rfl; cases h) (by rintro rfl; cases h) (by rintro rfl; cases h)

/-- A step stops where its operation does. -/
theorem step_fault {r : Fault} (hr : s.resetIn = false) (hs : s.sel = none) (hi : decode (.p s.phase) = .ok i)
    (hfault : exec i s = .fault r) : step s = .fault r := by
  rw [step_eq_afterNext hr (nextCode_of_sel_none hs ▸ hi), hfault, afterNext]

/-- An answered write changes the device, the phase, the events and the draw counter. -/
theorem exec_wrcfg_eq {count : Nat} (h : s.bus = .answers count) : exec .wrcfg s = .next
    { s with
      dw := (s.storeConfig count).dw
      phase := 3#3
      events := .memWrite s.par.devAddr s.wbuf :: s.events
      draws := s.draws + 1 } := by
  rw [exec_wrcfg h, storeConfig_eq]
  rfl

/-- The flag of R88 by the mask of R59. -/
theorem frameValid_eq_decide_mask (b : Byte) : frameValid b = decide (b &&& 0x03#8 = 0x00#8) := by
  rw [Bool.eq_iff_iff, frameValid_iff, decide_eq_true_iff]

/-- While the flag is set EMIT hands over the signed Sample (R106). -/
theorem exec_emit_valid (hv : s.valid = true) : exec .emit s = .next
    { s with
      chan := s.chan.receive (.sample (s12 s.x) (s12 s.y) (s12 s.z) (s12 s.t))
      events := .output (.sample (s12 s.x) (s12 s.y) (s12 s.z) (s12 s.t)) :: s.events
      phase := 3#3 } := by
  rw [exec_emit, presented_valid hv]
  rfl

/-- While the flag is clear EMIT hands over the error marker alone (R106, D23). -/
theorem exec_emit_torn (hv : s.valid = false) : exec .emit s = .next
    { s with
      chan := s.chan.receive .errorMarker
      events := .output .errorMarker :: s.events
      phase := 3#3 } := by
  rw [exec_emit, presented_torn hv]
  rfl

/-- With STATUS set the flag of R88 is cleared. -/
theorem frameValid_torn {b : Byte} (h : b.extractLsb' 0 2 ≠ 0#2) : frameValid b = false := by
  rw [frameValid_eq_decide, decide_eq_false h]

end Machine
end Sys2Proof
end

section
/-! PROOF. The bus operations, the wait and the hand-over (`42_sequencer_and_bus.md` sections 2 and 3), and the torn frame
(`41_sample_decoder.md` section 5). -/

open Sys2Proof Sys2Proof.Machine

/-- Settles O28: the equations of an answered and of a stalled read; no row of the successor table holds phase 0. -/
theorem rdfullLoadsTenRegisters : Obligations.RdfullLoadsTenRegisters := by
  refine ⟨rfl, fun s count h => ⟨_, exec_rdfull h, loadFull_rbuf count, rfl, rfl, rfl⟩, fun s h => onBus_stalls h,
    fun i s u h hp => ?_, fun raw raw' P h7 h8 h9 => ?_⟩
  · obtain hnext | ⟨hfield, hkept⟩ := nextPhase_or_field h
    · exact absurd (hnext.trans (congrArg some hp)) nextPhase_ne_zero
    · exact ⟨hfield, hkept.trans hp⟩
  · exact mergeFrame_eq_of_calibration (by rw [h7]) h8 (by rw [h9])

/-- Settles O29: the equations of an answered and of a stalled write, with DW as `storeConfig_dw` says. -/
theorem wrcfgStoresTheConfigFrame : Obligations.WrcfgStoresTheConfigFrame :=
  ⟨rfl, fun _ count h => ⟨_, exec_wrcfg_eq h, storeConfig_dw count, rfl, rfl, rfl⟩, fun _ h => onBus_stalls h,
    fun _ _ _ => merge_or_field_of_phase_two⟩

/-- Settles O30: the equation of WAIT; WRCFG and EMIT both write phase 3. -/
theorem waitChangesThePhaseOnly : Obligations.WaitChangesThePhaseOnly := by
  refine ⟨rfl, fun s => exec_wait, fun s u h => ?_, fun s u h => ?_⟩
  · rw [exec_phase h]
    rfl
  · rw [exec_phase h]
    rfl

/-- Settles O31: the equations of an answered and of a stalled read; positions 7 to 9 are kept
(`loadSample_rbuf_high`). -/
theorem rdsmpLoadsSevenRegisters : Obligations.RdsmpLoadsSevenRegisters := by
  refine ⟨rfl, fun s count h => ⟨_, exec_rdsmp h, fun k => ?_, rfl, rfl, rfl, rfl⟩, fun s h => onBus_stalls h,
    fun _ _ _ => wait_or_field_of_phase_four⟩
  by_cases hk : k.val < 7
  · rw [if_pos hk]
    exact loadSample_rbuf_low count k hk
  · rw [if_neg hk]
    exact loadSample_rbuf_high count k (Nat.le_of_not_lt hk)

/-- Settles O32: the equation of EMIT, with what is presented in either case of the flag. -/
theorem emitHandsOverTheSample : Obligations.EmitHandsOverTheSample :=
  ⟨rfl, fun _ => ⟨exec_emit_valid, exec_emit_torn⟩⟩

/-- Settles O34: a bus call completes exactly when it is answered, every other operation always (`exec_of_not_bus`), and
a step stops where its operation does (`step_fault`). -/
theorem onlyAStalledBusStops : Obligations.OnlyAStalledBusStops := by
  refine ⟨fun i s hbus => ?_, fun i s hf hw hs => ⟨_, exec_of_not_bus hf hw hs⟩, fun s hr hs hphase hb => ?_,
    fun s hr => ⟨_, step_under_reset hr, rfl⟩⟩
  · obtain rfl | rfl | rfl := hbus
    · exact ⟨fun hb => onBus_stalls hb, fun _ hb => ⟨_, exec_rdfull hb⟩⟩
    · exact ⟨fun hb => onBus_stalls hb, fun _ hb => ⟨_, exec_wrcfg hb⟩⟩
    · exact ⟨fun hb => onBus_stalls hb, fun _ hb => ⟨_, exec_rdsmp hb⟩⟩
  · obtain hp | hp | hp := hphase
    · exact step_fault (i := .rdfull) hr hs (by rw [hp]; rfl) (onBus_stalls hb)
    · exact step_fault (i := .wrcfg) hr hs (by rw [hp]; rfl) (onBus_stalls hb)
    · exact step_fault (i := .rdsmp) hr hs (by rw [hp]; rfl) (onBus_stalls hb)

/-- Settles O38: an answered write changes the device's registers in the way `storeConfig_dw` says, and the block in a
way that does not depend on the count. -/
theorem writeFailureLeavesTheBlock : Obligations.WriteFailureLeavesTheBlock := by
  refine ⟨fun s k k' => ⟨_, _, exec_wrcfg_eq rfl, exec_wrcfg_eq rfl, rfl, rfl, fun hk i => ?_⟩,
    fun _ _ _ => merge_or_field_of_phase_two⟩
  exact (storeConfig_dw k i).trans (if_neg (Nat.not_le_of_lt hk))

/-- Settles O23: STATUS set clears the flag (`frameValid_torn`), and while the flag is clear EMIT presents the marker
alone, which the channel does not count. -/
theorem tornFrameIsNeverPresented : Obligations.TornFrameIsNeverPresented := by
  intro s hstatus
  have htorn : frameValid s.rbuf[3] = false := frameValid_torn hstatus
  exact ⟨by rw [exec_chkv, htorn, State.setValid], _, _, exec_decode, htorn, channelX_eq_append _ _,
    channelY_eq_append _ _, channelZ_eq_append _ _, channelT_eq_append _ _, exec_emit_torn htorn, rfl, rfl, rfl, rfl⟩

end

section
/-! SUPPORT. A list of operations run one after the other (`runOps`), and what field operations leave behind whatever
their order is (`30_encoding.md` section 5). -/

namespace Sys2Proof.Machine

variable {i : Instr} {ops ops' : List Instr} {s u v : State}

theorem runOps_cons (h : exec i s = .next v) : runOps (i :: ops) s = runOps ops v := by
  simp only [runOps, h]

/-- Two writers of one value leave what one of them does. -/
theorem ite_ite_or {α : Type} (b b' : Bool) (a c : α) :
    (if b' then a else if b then a else c) = if b || b' then a else c := by
  cases b <;> cases b' <;> rfl

/-- What field operations leave when they run one after the other: an element holds its computed value if one of them
writes it, else it is kept. The order is not seen. -/
structure FieldRun (ops : List Instr) (s u : State) : Prop where
  frame : u = { s with wbuf := u.wbuf, x := u.x, y := u.y, z := u.z, t := u.t, valid := u.valid }
  wbuf : ∀ k : Fin 4, u.wbuf[k] =
    if ops.any (·.writes (.wbuf k)) then (mergeFrame s.rbuf s.par.preset)[k] else s.wbuf[k]
  x : u.x = if ops.any (·.writes .x) then channelX s.rbuf[0] s.rbuf[4] else s.x
  y : u.y = if ops.any (·.writes .y) then channelY s.rbuf[1] s.rbuf[4] else s.y
  z : u.z = if ops.any (·.writes .z) then channelZ s.rbuf[2] s.rbuf[5] else s.z
  t : u.t = if ops.any (·.writes .t) then channelT s.rbuf[3] s.rbuf[6] else s.t
  valid : u.valid = if ops.any (·.writes .valid) then frameValid s.rbuf[3] else s.valid

namespace FieldRun

theorem nil : FieldRun [] s s :=
  ⟨rfl, fun _ => rfl, rfl, rfl, rfl, rfl, rfl⟩

/-- One field operation before others: it keeps what they compute from. -/
theorem cons (hi : i.sequenced = false) (h : FieldRun ops (i.completed s) u) : FieldRun (i :: ops) s u := by
  have hframe := completed_of_field (s := s) hi
  have hrbuf : (i.completed s).rbuf = s.rbuf := by rw [hframe]
  constructor
  case frame =>
    calc u = { i.completed s with
          wbuf := u.wbuf, x := u.x, y := u.y, z := u.z, t := u.t, valid := u.valid } := h.frame
      _ = { s with wbuf := u.wbuf, x := u.x, y := u.y, z := u.z, t := u.t, valid := u.valid } := by rw [hframe]
  case wbuf =>
    intro k
    rw [h.wbuf k, completed_wbuf, hrbuf, completed_par, ite_ite_or, List.any_cons]
  case x => rw [h.x, completed_x, hrbuf, ite_ite_or, List.any_cons]
  case y => rw [h.y, completed_y, hrbuf, ite_ite_or, List.any_cons]
  case z => rw [h.z, completed_z, hrbuf, ite_ite_or, List.any_cons]
  case t => rw [h.t, completed_t, hrbuf, ite_ite_or, List.any_cons]
  case valid => rw [h.valid, completed_valid, hrbuf, ite_ite_or, List.any_cons]

theorem perm (hperm : ops.Perm ops') (h : FieldRun ops s u) : FieldRun ops' s u := by
  obtain ⟨hframe, hwbuf, hx, hy, hz, ht, hvalid⟩ := h
  simp only [hperm.any_eq] at hwbuf hx hy hz ht hvalid
  exact ⟨hframe, hwbuf, hx, hy, hz, ht, hvalid⟩

end FieldRun

/-- A list of field operations runs to its end. -/
theorem exists_fieldRun (hops : ∀ i ∈ ops, i.sequenced = false) :
    ∃ u, runOps ops s = .next u ∧ FieldRun ops s u := by
  induction ops generalizing s with
  | nil => exact ⟨s, rfl, .nil⟩
  | cons i ops ih =>
    obtain ⟨hi, hrest⟩ := List.forall_mem_cons.1 hops
    obtain ⟨u, hrun, hu⟩ := ih (s := i.completed s) hrest
    exact ⟨u, (runOps_cons (exec_of_field hi)).trans hrun, hu.cons hi⟩

/-- Field operations in any order. -/
theorem exists_fieldRun_of_perm (hperm : ops.Perm ops') (hops : ∀ i ∈ ops', i.sequenced = false) :
    ∃ u, runOps ops s = .next u ∧ FieldRun ops' s u := by
  obtain ⟨u, hrun, hu⟩ := exists_fieldRun (s := s) fun i hi => hops i (hperm.mem_iff.1 hi)
  exact ⟨u, hrun, hu.perm hperm⟩

theorem eq_of_cfgRun (h : FieldRun [.cfg0, .cfg1, .cfg2, .cfg3] s u) :
    u = s.setWbuf (mergeFrame s.rbuf s.par.preset) := by
  have hwrites : ∀ k : Fin 4, [Instr.cfg0, .cfg1, .cfg2, .cfg3].any (·.writes (.wbuf k)) = true := by decide
  have hwbuf : u.wbuf = mergeFrame s.rbuf s.par.preset := Vector.ext fun k hk =>
    (h.wbuf ⟨k, hk⟩).trans (if_pos (hwrites ⟨k, hk⟩))
  rw [h.frame, hwbuf, h.x, h.y, h.z, h.t, h.valid]
  rfl

theorem eq_of_extRun (h : FieldRun [.extx, .exty, .extz, .extt, .chkv] s u) :
    u = ((((s.setX (channelX s.rbuf[0] s.rbuf[4])).setY (channelY s.rbuf[1] s.rbuf[4])).setZ
      (channelZ s.rbuf[2] s.rbuf[5])).setT (channelT s.rbuf[3] s.rbuf[6])).setValid (frameValid s.rbuf[3]) := by
  have hwbuf : u.wbuf = s.wbuf := Vector.ext fun k hk => h.wbuf ⟨k, hk⟩
  rw [h.frame, hwbuf, h.x, h.y, h.z, h.t, h.valid]
  rfl

end Sys2Proof.Machine
end

section
/-! PROOF. MERGE and DECODE against their field operations (`40_configurator.md` section 3, `41_sample_decoder.md`
section 5). -/

open Sys2Proof Sys2Proof.Machine

/-- Settles O11: the equation of MERGE, and in any order the four field operations leave each byte of the merge
(`FieldRun`). -/
theorem mergeBuildsTheConfigFrame : Obligations.MergeBuildsTheConfigFrame := by
  refine ⟨rfl, fun s => exec_merge, fun s ops hperm => ?_, fun s s' u u' h7 h8 h9 hpreset h h' => ?_, fun s u h => ?_⟩
  · obtain ⟨u, hrun, hu⟩ := exists_fieldRun_of_perm (s := s) hperm (by decide)
    exact ⟨u, hrun, eq_of_cfgRun hu ▸ exec_merge⟩
  · cases h
    cases h'
    show mergeFrame s.rbuf s.par.preset = mergeFrame s'.rbuf s'.par.preset
    rw [hpreset]
    exact mergeFrame_eq_of_calibration (by rw [h7]) h8 (by rw [h9])
  · cases h
    exact exec_merge

/-- Settles O22: the equation of DECODE, its channels as concatenations, and in any order the five field operations leave
each result of it (`FieldRun`). -/
theorem decodeBuildsTheSample : Obligations.DecodeBuildsTheSample := by
  refine ⟨rfl, fun s => ?_, fun s u h => ?_, fun s ops hperm => ?_⟩
  · rw [exec_decode, channelX_eq_append, channelY_eq_append, channelZ_eq_append, channelT_eq_append,
      frameValid_eq_decide_mask]
    rfl
  · rw [exec_decode] at h
    cases h
    rfl
  · obtain ⟨u, hrun, hu⟩ := exists_fieldRun_of_perm (s := s) hperm (by decide)
    exact ⟨u, hrun, eq_of_extRun hu ▸ exec_decode⟩

end

section
/-! SUPPORT. What a read leaves in the receive buffer, in full and short (`20_memory.md` R33, R34), and a step through
each sequenced operation. -/

namespace Sys2Proof.Machine

variable {s : State} {count : Nat}

/-- A full read that is answered in full returns the device's registers. -/
theorem loadFull_rbuf_full (h : 10 ≤ count) : (s.loadFull count).rbuf = s.dr :=
  Vector.ext fun k hk => (loadFull_rbuf count ⟨k, hk⟩).trans (busByte_delivered (hk.trans_le h))

/-- A sample read that is answered in full returns the device's first seven registers. -/
theorem sampleFrame_loadSample (h : 7 ≤ count) : sampleFrame (s.loadSample count).rbuf = sampleFrame s.dr := by
  have hbyte : ∀ k : Fin 10, k.val < 7 → s.busByte count k = s.dr[k] := fun k hk => busByte_delivered (hk.trans_le h)
  simp [sampleFrame, State.loadSample, hbyte]

/-- Of a six-byte answer the last of the seven bytes is a free value. -/
theorem sampleFrame_loadSample_six : sampleFrame (s.loadSample 6).rbuf =
    #v[s.dr[0], s.dr[1], s.dr[2], s.dr[3], s.dr[4], s.dr[5], Config.any8 s.draws 6] := rfl

/-- Of an eight-byte answer to a full read two of the bytes that MERGE reads are free values. -/
theorem mergeFrame_loadFull_eight (P : Vector Byte 4) : mergeFrame (s.loadFull 8).rbuf P =
    #v[cfgByte0, cfgByte1 s.dr[7] P[1], cfgByte2 (Config.any8 s.draws 8) P[2],
      cfgByte3 (Config.any8 s.draws 9) P[3]] := rfl

@[simp] theorem presented_advance : s.advance.presented = s.presented :=
  presented_congr rfl rfl rfl rfl rfl

/-- EMIT after DECODE presents the frame in the receive buffer. -/
@[simp] theorem presented_completed_decode :
    (Instr.decode.completed s).presented = outputOf (decodeFrame (sampleFrame s.rbuf)) :=
  presented_eq_outputOf

/-! ### A step through the other sequenced operations -/

theorem step_rdfull (hr : s.resetIn = false) (hs : s.sel = none) (hp : s.phase = 0#3) (hb : s.bus = .answers count) :
    step s = .next (((s.loadFull count).noteFullRead.drawn).goto 1).advance :=
  step_eq_of_decode_p hr hs (by rw [hp]; rfl) (exec_rdfull hb)

theorem step_merge (hr : s.resetIn = false) (hs : s.sel = none) (hp : s.phase = 1#3) :
    step s = .next ((s.setWbuf (mergeFrame s.rbuf s.par.preset)).goto 2).advance :=
  step_eq_of_decode_p hr hs (by rw [hp]; rfl) exec_merge

theorem step_wrcfg_full (hr : s.resetIn = false) (hs : s.sel = none) (hp : s.phase = 2#3)
    (hb : s.bus = .answers count) (h : 4 ≤ count) :
    step s = .next ((((s.setDw s.wbuf).record (.memWrite s.par.devAddr s.wbuf)).drawn).goto 3).advance := by
  rw [← storeConfig_full h]
  exact step_eq_of_decode_p hr hs (by rw [hp]; rfl) (exec_wrcfg hb)

theorem exec_decode_completed : exec .decode s = .next (Instr.decode.completed s) := exec_decode

theorem step_decode (hr : s.resetIn = false) (hs : s.sel = none) (hp : s.phase = 5#3) :
    step s = .next (Instr.decode.completed s).advance :=
  step_eq_of_decode_p hr hs (by rw [hp]; rfl) exec_decode_completed

theorem step_emit (hr : s.resetIn = false) (hs : s.sel = none) (hp : s.phase = 6#3) :
    step s = .next ((s.deliver s.presented).goto 3).advance :=
  step_eq_of_decode_p hr hs (by rw [hp]; rfl) exec_emit

end Sys2Proof.Machine
end

section
/-! PROOF. Short reads, the cycle and CONFIGURE (`60_exceptions.md` section 1, `42_sequencer_and_bus.md` sections 2 to
4, program P1 of `95_test_vectors.md`). -/

open Sys2Proof Sys2Proof.Machine

/-- Settles O36: the frame that DECODE takes from a six-byte answer (`sampleFrame_loadSample_six`), and the merge of an
eight-byte one (`mergeFrame_loadFull_eight`). -/
theorem shortReadGoesUnseen : Obligations.ShortReadGoesUnseen := by
  refine ⟨fun s hb => ?_, fun s hb => ?_⟩
  · have hregs := congrArg decodeFrame (sampleFrame_loadSample_six (s := s))
    obtain ⟨hx, hy, hz, ht, hvalid⟩ := Sample.mk.inj hregs
    refine ⟨_, (runOps_cons (exec_rdsmp hb)).trans (runOps_cons exec_decode), hx.trans (channelX_eq_append _ _),
      hy.trans (channelY_eq_append _ _), hz.trans (channelZ_eq_append _ _), ht.trans (channelT_eq_append _ _),
      hvalid.trans (frameValid_eq_decide_mask _), rfl⟩
  · have hmerge := mergeFrame_loadFull_eight (s := s) s.par.preset
    have hbyte := fun k : Fin 4 => congrArg (fun frame : Vector Byte 4 => frame[k]) hmerge
    exact ⟨_, (runOps_cons (exec_rdfull hb)).trans (runOps_cons exec_merge), hbyte 1, hbyte 2, hbyte 3, rfl⟩

/-- Settles O37: a read answered in full puts the device's registers into the receive buffer
(`sampleFrame_loadSample`), DECODE and EMIT present what it holds (`presented_completed_decode`), and no turn of the
surroundings touches it. -/
theorem fullReadPresentsTheDevice : Obligations.FullReadPresentsTheDevice := by
  refine ⟨fun s hr hs hp => ?_, fun s count hr hs hp hb hcount => ?_, fun s count hb hcount => ?_⟩
  · exact ⟨_, step_wait hr hs hp, rfl, hr, rfl, rfl, rfl, rfl⟩
  · refine ⟨_, _, _, step_rdsmp hr hs hp hb, step_decode hr rfl rfl, step_emit hr rfl rfl, ?_, rfl, rfl, rfl⟩
    simp [completed_events, Instr.notes, sampleFrame_loadSample hcount]
  · have hread : exec .rdsmp (s.goto 4) = _ := exec_rdsmp hb
    refine ⟨_, ((runOps_cons exec_wait).trans (runOps_cons hread)).trans
      ((runOps_cons exec_decode_completed).trans (runOps_cons exec_emit)), ?_, rfl, rfl, rfl⟩
    simp [completed_events, Instr.notes, sampleFrame_loadSample hcount]

/-- Settles O48: the full read puts the device's registers into the receive buffer (`loadFull_rbuf_full`), MERGE builds
the frame from them, WRCFG hands it over; the merge keeps its guarantee (`mergeFrame_bytes_of_presetWF`). -/
theorem configurePreservesCalibration : Obligations.ConfigurePreservesCalibration := by
  intro s count count' hr hs hp hb hcount hcount'
  have hrbuf : (s.loadFull count).rbuf = s.dr := loadFull_rbuf_full hcount
  have hmerge : mergeFrame (s.loadFull count).rbuf s.par.preset = mergeFrame s.dr s.par.preset := by rw [hrbuf]
  refine ⟨_, _, _, step_rdfull hr hs hp hb, step_merge hr rfl rfl, step_wrcfg_full hr rfl rfl rfl hcount', hmerge, rfl,
    ?_, fun hwf => ?_⟩
  · simp [hrbuf]
  · have hbytes := mergeFrame_bytes_of_presetWF (raw := s.dr) hwf
    rw [← hmerge] at hbytes
    exact hbytes

end

section
/-! SUPPORT. The events of a run (`42_sequencer_and_bus.md` R109), read off the invariant: what each of them is, and that
at most one is a write. -/

namespace Sys2Proof

open Machine

/-- What an event of a run can be, with the device's address and the preset. -/
inductive RunEvent (addr : Nat) (preset : Vector Byte 4) : Event → Prop
  | fullRead (raw : Vector Byte 10) : RunEvent addr preset (.memRead addr 10 raw.toList)
  | write (raw : Vector Byte 10) : RunEvent addr preset (.memWrite addr (mergeFrame raw preset))
  | sampleRead (f : Vector Byte 7) : RunEvent addr preset (.memRead addr 7 f.toList)
  | output (f : Vector Byte 7) : RunEvent addr preset (.output (outputOf (decodeFrame f)))

/-- Whether an event is a write to the device. -/
def Machine.Event.isWrite : Event → Bool
  | .memWrite _ _ => true
  | _ => false

variable {addr : Nat} {preset : Vector Byte 4} {es : List Event} {e : Event} {s : State}

theorem runEvent_of_settled (h : Settled addr preset es) : ∀ e ∈ es, RunEvent addr preset e := by
  induction h with
  | configured raw => simpa using ⟨RunEvent.write raw, RunEvent.fullRead raw⟩
  | cycle f rest _ ih => simpa using ⟨RunEvent.output f, RunEvent.sampleRead f, ih⟩

theorem writes_of_settled (h : Settled addr preset es) : (es.filter Event.isWrite).length = 1 := by
  induction h with
  | configured raw => rfl
  | cycle f rest _ ih => exact ih

/-- The events of a run are none, the one full read, or a settled list with at most a sample read before it. -/
theorem events_of_traceOK (h : TraceOK s) :
    s.events = [] ∨ (∃ raw : Vector Byte 10, s.events = [.memRead s.par.devAddr 10 raw.toList]) ∨
      ∃ rest, Settled s.par.devAddr s.par.preset rest ∧
        (s.events = rest ∨ ∃ f : Vector Byte 7, s.events = .memRead s.par.devAddr 7 f.toList :: rest) := by
  unfold TraceOK at h
  split at h
  case h_1 => exact .inl h
  case h_2 | h_3 => exact .inr (.inl ⟨_, h⟩)
  case h_4 | h_5 => exact .inr (.inr ⟨_, h, .inl rfl⟩)
  case h_6 | h_7 =>
    obtain ⟨rest, hread, hsettled⟩ := h
    exact .inr (.inr ⟨rest, hsettled, .inr ⟨_, hread⟩⟩)
  case h_8 => exact h.elim

theorem runEvent_of_traceOK (h : TraceOK s) (he : e ∈ s.events) : RunEvent s.par.devAddr s.par.preset e := by
  obtain hnone | ⟨raw, hread⟩ | ⟨rest, hsettled, hrest | ⟨f, hread⟩⟩ := events_of_traceOK h
  · rw [hnone] at he
    cases he
  · rw [hread] at he
    obtain rfl := List.mem_singleton.1 he
    exact .fullRead raw
  · rw [hrest] at he
    exact runEvent_of_settled hsettled e he
  · rw [hread] at he
    obtain rfl | hlater := List.mem_cons.1 he
    · exact .sampleRead f
    · exact runEvent_of_settled hsettled e hlater

theorem writes_of_traceOK (h : TraceOK s) : (s.events.filter Event.isWrite).length ≤ 1 := by
  obtain hnone | ⟨raw, hread⟩ | ⟨rest, hsettled, hrest | ⟨f, hread⟩⟩ := events_of_traceOK h
  · rw [hnone]
    exact Nat.zero_le 1
  · rw [hread]
    exact Nat.zero_le 1
  · rw [hrest]
    exact (writes_of_settled hsettled).le
  · rw [hread]
    exact (writes_of_settled hsettled).le

/-! ### What an event tells -/

theorem output_of_runEvent {o : Output} (h : RunEvent addr preset (.output o)) :
    ∃ f : Vector Byte 7, o = outputOf (decodeFrame f) := by
  cases h with
  | output f => exact ⟨f, rfl⟩

theorem write_of_runEvent {a : Nat} {v : Vector Byte 4} (h : RunEvent addr preset (.memWrite a v)) :
    a = addr ∧ ∃ raw, v = mergeFrame raw preset := by
  cases h with
  | write raw => exact ⟨rfl, raw, rfl⟩

theorem read_of_runEvent {a n : Nat} {b : List Byte} (h : RunEvent addr preset (.memRead a n b)) :
    a = addr ∧ (n = 10 ∨ n = 7) ∧ b.length = n := by
  cases h with
  | fullRead raw => exact ⟨rfl, .inl rfl, raw.length_toList⟩
  | sampleRead f => exact ⟨rfl, .inr rfl, f.length_toList⟩

/-- A Sample that is presented is the signed reading of the frame's patterns. -/
theorem sample_of_outputOf {d : Sample} {x y z t : Int} (h : .sample x y z t = outputOf d) :
    x = s12 d.x ∧ y = s12 d.y ∧ z = s12 d.z ∧ t = s12 d.t := by
  unfold outputOf at h
  split at h
  · exact Output.sample.inj h
  · cases h

end Sys2Proof
end

section
/-! PROOF. What a run presents and what it sends over the bus (`10_state.md` sections 2 and 4, `70_reset_and_hazards.md`
section 3). -/

open Sys2Proof Sys2Proof.Machine

/-- Settles O46: an Output of a run is that of a decoded frame (`runEvent_of_traceOK`), whose patterns are read by
`s12`. -/
theorem presentedValuesAreRepresentable : Obligations.PresentedValuesAreRepresentable := by
  intro s h x y z t he
  obtain ⟨f, hf⟩ := output_of_runEvent (runEvent_of_traceOK h.1 he)
  obtain ⟨rfl, rfl, rfl, rfl⟩ := sample_of_outputOf hf
  exact ⟨s12_bounds _, s12_bounds _, s12_bounds _, tValue_s12_channelT _ _⟩

/-- Settles O47: a write of a run is a merged frame and a read is a full or a sample read (`runEvent_of_traceOK`); the
writes are counted along the run (`writes_of_traceOK`). -/
theorem writesKeepTheWireContract : Obligations.WritesKeepTheWireContract := by
  refine fun s h => ⟨fun a v he => ?_, fun a n b he => read_of_runEvent (runEvent_of_traceOK h.1 he),
    writes_of_traceOK h.1⟩
  obtain ⟨haddr, raw, rfl⟩ := write_of_runEvent (runEvent_of_traceOK h.1 he)
  refine ⟨haddr, rfl, fun hwf => ?_⟩
  obtain ⟨-, -, -, -, hmode1, hmode3⟩ := mergeFrame_bytes_of_presetWF (raw := raw) hwf
  exact ⟨hmode1, hmode3⟩

end
